-- ==== Sys2Proof/Word.lean ====
section
/-! DEFINITION. The plain words of the manual: bytes, the tick count, and the closed lists of names
(00_scope.md, R176) that commands, the state and replies share. -/

namespace Sys2Proof

/-- A byte of the link. -/
abbrev Byte := BitVec 8

/-- The tick count: 32 bits, wrapping at 2^32 (00_scope.md, "Time"). -/
abbrev TickCount := BitVec 32

/-- One byte as the line delivers it, with its stop bit at the idle level or not (R2). -/
structure LineByte where
  value : Byte
  stopOk : Bool
  deriving DecidableEq, Repr

/-- The four profiles (R18), in the order of R176. -/
inductive ProfileKind
  | plant | fog | heat | light
  deriving DecidableEq, Repr

/-- The five probe groups (R36). -/
inductive Group
  | a | b | c | d | e
  deriving DecidableEq, Repr

/-- Who posts to the ice load table (R104). -/
inductive LoadPoster
  | plant | conditionArray | lighting | stands
  deriving DecidableEq, Repr

/-- Who posts to the heat allocation table through a posting of its own (R113); the host's MELT DEMAND is its own row. -/
inductive HeatPoster
  | plant | fogWatch | stands
  deriving DecidableEq, Repr

/-- Who hands spectator heating a near-ice input (R131). -/
inductive CapPoster
  | fogWatch | loadTable | plant
  deriving DecidableEq, Repr

/-- The part states of R17. -/
inductive PartState
  | unconfigured | configuring | configured | calibrating | run | nightHold | fallback
  deriving DecidableEq, Repr

/-- The status of a profile (R18). -/
inductive ProfileStatus
  | absent | settling | loaded
  deriving DecidableEq, Repr

/-- The kinds of reset (R33, R34). -/
inductive ResetCause
  | powerOn | resetLine | brownout | restart
  deriving DecidableEq, Repr

/-- The link faults of R4. -/
inductive LinkFault
  | stopBit | gap | length | check
  deriving DecidableEq, Repr

/-- The outcomes of R11. -/
inductive ReplyOutcome
  | done | accepted | deferred | unknownKind | badField | incomplete | wrongState | settling | tooSoon
  | noSpace | notFound | busy | notConfigured
  deriving DecidableEq, Repr

/-- The quality of a reading record (R37). -/
inductive Quality
  | good | stale | range | absent | substituted
  deriving DecidableEq, Repr

/-- The calibration mark of a channel (R38). -/
inductive CalMark
  | uncal | passed | failed
  deriving DecidableEq, Repr

/-- The states of a probe group (R40). -/
inductive GroupState
  | asleep | waking | calibrating | substituted
  deriving DecidableEq, Repr

/-- The clocks of a timer cell (R63). -/
inductive CellClock
  | base | second | chain
  deriving DecidableEq, Repr

/-- The edge selections of a timer cell (R60). -/
inductive EdgeSel
  | rise | fall | both
  deriving DecidableEq, Repr

/-- The direction of a probe threshold (R58). -/
inductive Direction
  | above | below
  deriving DecidableEq, Repr

/-- The phase of a timer cell (R64 to R69); a pending edge carries the level to be passed. -/
inductive CellPhase
  | idle | pending (level : Bool) | pulse | open
  deriving DecidableEq, Repr

/-- The four host-chosen ice states (R78). -/
inductive IceMode
  | hold | practice | game | covered
  deriving DecidableEq, Repr

/-- The ice states (R78). -/
inductive IceState
  | hold | practice | game | covered | resurface | recover | soft
  deriving DecidableEq, Repr

/-- The states of a compressor stage (R88). -/
inductive StageState
  | off | starting | running | stopping | lockedOut
  deriving DecidableEq, Repr

/-- The lockout causes (R88). -/
inductive LockCause
  | none | noConfirm | confirmLost | host
  deriving DecidableEq, Repr

/-- The states of a heat allocation row (R118). -/
inductive RowState
  | idle | satisfied | partial_ | starved
  deriving DecidableEq, Repr

/-- The states of a stand zone (R127). -/
inductive ZoneState
  | off | preheat | occupied | setback | inhibited
  deriving DecidableEq, Repr

/-- The fog levels, from the best to the worst (R143). -/
inductive FogLevel
  | clear | watch | alert | fog
  deriving DecidableEq, Repr

/-- The playback states (R163). -/
inductive PlayState
  | idle | fading | waiting | releasing
  deriving DecidableEq, Repr

/-- The admission policies of a cue (R159). -/
inductive CuePolicy
  | defer | trim | force
  deriving DecidableEq, Repr

/-- Why a cue was dropped (R168, R170). -/
inductive DropCause
  | displaced | deferExpired | released | erased | noSpace
  deriving DecidableEq, Repr

/-- The notice kinds of R176, numbered from 1 in this order. -/
inductive NoticeKind
  | iceState | softIce | stageLockout | overBudget | heatShortfall | fogLevel | fogBlind | probeFault | cueDeferred
  | cueTrimmed | cueDropped | cueLateStart | strobeLimit | calibrationDone | profileSettled | retentionPurge | fallback
  deriving DecidableEq, Repr

end Sys2Proof
end

