-- ==== Sys2Proof/Syntax.lean ====
section
/-! DEFINITION. The commands of the block: one constructor per row of spec/opcode_table.json, in the table's order.
A request row names the moment at which the dispatcher takes that request from the head of the intake (R7), so the
request's own operands stand in the intake and the row has none. -/

namespace Sys2Proof

/-- The 97 rows of the table of operations and events. -/
inductive Instr
  /-- R3: the bytes arrive on RXD, in this order. -/
  | frameReceive (bytes : List LineByte)
  | gapExpiry
  /-- R10: the last byte of the frame leaves TXD; `strap` is the SPEED strap, sampled if the RESTART reset follows (R33). -/
  | transmitEnd (strap : Bool)
  | unknownKindRequest
  | identify
  | statusRead
  | noticeFetch
  | powerFlagClear
  | restart
  | resume
  | profileLoad
  | profileRead
  | calibrate
  | nightHoldEnter
  | nightHoldLeave
  | spacingExpiry
  | settleEnd (p : ProfileKind)
  | warmUpExpiry
  | hostSilenceExpiry
  /-- R33: a reset; `strap` is the SPEED strap as it is sampled. -/
  | powerOnReset (strap : Bool)
  | resetLine (strap : Bool)
  | brownout (strap : Bool)
  | periodExpiry (g : Group)
  /-- R42: the sample of a group, channel 0 to 7, in signed hundredths. -/
  | groupSample (g : Group) (samples : Vector Int 8)
  | recordStale (g : Group)
  | firstSweepSample (g : Group) (samples : Vector Int 8)
  | secondSweepSample (g : Group) (samples : Vector Int 8)
  | batchRead
  | substitute
  | substituteEnd
  | substitutionLimitExpiry (g : Group)
  /-- R56: the levels of FI0 to FI7, ENTRY and EXIT as read at this base tick. -/
  | baseTick (fi : Vector Bool 8) (entry exit : Bool)
  | delayComplete (k : Fin 16)
  | oneshotPulseEnd (k : Fin 16)
  | rateWindowClose (k : Fin 16)
  | edgePulseEnd (k : Fin 16)
  | countTerminal (k : Fin 16)
  | cellSet
  | cellRead
  | thresholdSet
  | gateBind
  | counterSet
  | occupancySet
  | iceMode
  | softWatchExpiry
  | softClearExpiry
  | recoverLimitExpiry
  | recoverSecond
  | raiseRequest
  /-- R92: the levels of SC1 to SC6 as read at this tick. -/
  | confirmRead (levels : Vector Bool 6)
  | startLimitExpiry (n : Fin 6)
  | stopTimeExpiry (n : Fin 6)
  | minimumPassed (n : Fin 6)
  | stageLockLock
  | stageLockUnlock
  | plantRead
  | loadTablePosting (poster : LoadPoster)
  | exitDwellExpiry
  | clearHoldExpiry
  | tableUpdate
  | tableChangeRetry
  | loadTableRead
  | heatTablePosting (poster : HeatPoster)
  | meltDemand
  | heatTableRead
  | zoneGrantHandback
  | nearIceCapInput (poster : CapPoster)
  | zoneSetOff
  | zoneSetOccupied
  | zoneSetSetback
  | preheatLimitExpiry (z : Fin 8)
  | minimumOnExpiry (z : Fin 8) (n : Fin 3)
  | zoneRead
  | descendDwellExpiry
  | fogBlindExpiry
  | desiccantHandback
  | starveExpiry
  | fogRead
  | cueStore
  | cueStoreComplete
  | listErase
  | listEraseComplete
  | cueRead
  | goCue
  | goNext
  | postedCueDue
  | deferExpiry
  | fadeEndExpiry
  | followExpiry
  | channelFadeEnd (ch : Fin 24)
  | release
  | releaseTimerExpiry
  | effectSet
  | strobe
  | strobePulseExpiry
  | playbackRead
  | channelPeriodBoundary (ch : Fin 24)
  deriving DecidableEq, Repr

end Sys2Proof
end

