-- ==== Sys2Proof/WellFormed.lean ====
section
/-! DEFINITION. What a sender may put into a command: the checks the operand types do not already make. -/

namespace Sys2Proof

/-- A front-end sample is a signed 16-bit figure in hundredths of a degree (R174). -/
def sampleOk (v : Int) : Bool := decide (-32768 ≤ v ∧ v ≤ 32767)

/-- Every one of the eight samples fits (R42, R48). -/
def samplesOk (v : Vector Int 8) : Bool := (List.finRange 8).all fun k => sampleOk v[k]

/-- A command is well formed when bytes do arrive (FRAME_RECEIVE, R3) and every sample fits its word; every other
row's operands are right by their types. -/
def Instr.wellFormed : Instr → Bool
  | .frameReceive bytes => !bytes.isEmpty
  | .groupSample _ v => samplesOk v
  | .firstSweepSample _ v => samplesOk v
  | .secondSweepSample _ v => samplesOk v
  | .gapExpiry | .transmitEnd _ | .unknownKindRequest | .identify | .statusRead | .noticeFetch | .powerFlagClear
  | .restart | .resume | .profileLoad | .profileRead | .calibrate | .nightHoldEnter | .nightHoldLeave
  | .spacingExpiry | .settleEnd _ | .warmUpExpiry | .hostSilenceExpiry | .powerOnReset _ | .resetLine _
  | .brownout _ | .periodExpiry _ | .recordStale _ | .batchRead | .substitute | .substituteEnd
  | .substitutionLimitExpiry _ | .baseTick _ _ _ | .delayComplete _ | .oneshotPulseEnd _ | .rateWindowClose _
  | .edgePulseEnd _ | .countTerminal _ | .cellSet | .cellRead | .thresholdSet | .gateBind | .counterSet
  | .occupancySet | .iceMode | .softWatchExpiry | .softClearExpiry | .recoverLimitExpiry | .recoverSecond
  | .raiseRequest | .confirmRead _ | .startLimitExpiry _ | .stopTimeExpiry _ | .minimumPassed _ | .stageLockLock
  | .stageLockUnlock | .plantRead | .loadTablePosting _ | .exitDwellExpiry | .clearHoldExpiry | .tableUpdate
  | .tableChangeRetry | .loadTableRead | .heatTablePosting _ | .meltDemand | .heatTableRead | .zoneGrantHandback
  | .nearIceCapInput _ | .zoneSetOff | .zoneSetOccupied | .zoneSetSetback | .preheatLimitExpiry _
  | .minimumOnExpiry _ _ | .zoneRead | .descendDwellExpiry | .fogBlindExpiry | .desiccantHandback | .starveExpiry
  | .fogRead | .cueStore | .cueStoreComplete | .listErase | .listEraseComplete | .cueRead | .goCue | .goNext
  | .postedCueDue | .deferExpiry | .fadeEndExpiry | .followExpiry | .channelFadeEnd _ | .release
  | .releaseTimerExpiry | .effectSet | .strobe | .strobePulseExpiry | .playbackRead | .channelPeriodBoundary _ => true

end Sys2Proof
end

