-- ==== Sys2Proof/Decode.lean ====
section
/-! DEFINITION. The decoder over the rows of the table that give bits. The part fetches no instruction: no row of
spec/opcode_table.json gives a bit or a field, so no word spells a command. -/

namespace Sys2Proof

/-- The command that a word of `nbits` bits spells by the table's bits: none, since no row gives bits. -/
def decodeTableWord (_nbits _w : Nat) : Option Instr := none

end Sys2Proof
end

