-- ==== Sys2Proof/Config.lean ====
section
/-! DEFINITION. What the part fixes for good (R2, R15, R175) and the free value where the manual states no
result. -/

namespace Sys2Proof

/-- The part identity code (R175). -/
def Config.identityCode : Nat := 0x5C3C

/-- The function revision (R175). -/
def Config.functionRevision : Nat := 3

/-- FREE VALUE (log 4): the number whose low bytes are sent where a reply figure does not fit the `bytes`-byte field
that R174 gives it (256 free slots in one byte, a surface correction above 65535 kW in two). The manual states no
result there. DESIGN CHOICE, safe: nothing can be proved of it. -/
opaque Config.unfitFigure (bytes : Nat) (figure : Int) : Nat

end Sys2Proof
end

