-- ==== Sys2Proof/Machine/State.lean ====
section
/-! DEFINITION. State: every piece of state the manual gives the part, block by block, as plain data, and the
machine right after reset. Figures the manual forms from others (run lines, effect lines, the band in force) are
computed from these in Flags.lean and the blocks' files: each register has one home (log 20). -/

namespace Sys2Proof.Machine

open Sys2Proof

/-- A countdown in ticks: `none` idle; `some n` with n ticks left; `some 0` expired, its expiry event not yet taken. -/
abbrev Timer := Option Nat

/-! ### LINK -/

/-- The frame receiver (R3): what it has taken of the frame in reception. -/
inductive RxState
  | hunt
  | length (low : Option Byte)
  | body (len : Nat) (got : List Byte)
  | check (len : Nat) (got : List Byte) (high : Option Byte)
  deriving DecidableEq, Repr

/-- A checked request frame in the intake (R5). -/
structure Request where
  tag : Byte
  kind : Byte
  body : List Byte
  deriving DecidableEq, Repr

/-- A reply frame (R10); `restart` marks the reply after which the RESTART reset is made (R7). -/
structure Reply where
  tag : Byte
  kind : Byte
  body : List Byte
  restart : Bool
  deriving DecidableEq, Repr

/-- The link fault record (R4). -/
structure FaultRecord where
  stopBit : Nat
  gap : Nat
  length : Nat
  check : Nat
  last : Option LinkFault
  deriving DecidableEq, Repr

/-- A notice record (R13). -/
structure Notice where
  kind : NoticeKind
  source : Nat
  stamp : TickCount
  first : Int
  second : Int
  deriving DecidableEq, Repr

/-- A cue record (R159): entries in the order stored, an effect item on, off or none. -/
structure CueRecord where
  list : Nat
  number : Nat
  entries : List (Fin 24 × Nat)
  fade : Nat
  post : Nat
  follow : Option Nat
  load : Nat
  policy : CuePolicy
  e0 : Option Bool
  e2 : Option Bool
  e3 : Option Bool
  deriving DecidableEq, Repr

/-- The request dispatcher (R7): free, held by a cue memory write with the ticks left of it, or stopped by RESTART. -/
inductive Dispatcher
  | free
  | storing (tag : Byte) (rec : CueRecord) (left : Nat)
  | erasing (tag : Byte) (list : Nat) (left : Nat)
  | halted
  deriving DecidableEq, Repr

/-- The link controller and the dispatcher (chapter 1). -/
structure Link where
  rx : RxState
  gap : Timer
  faults : FaultRecord
  intake : List Request
  busyMark : Option Byte
  overrun : Bool
  dispatcher : Dispatcher
  replies : List Reply
  tx : Option Reply
  fastRate : Bool
  notices : List Notice
  noticesLost : Bool
  deriving DecidableEq, Repr

/-! ### OPS -/

/-- One item of a body: its id and its value (R12). -/
structure Item where
  id : Nat
  val : Int
  deriving DecidableEq, Repr

/-- A profile's status, stored items and settling timer (R18, R21). -/
structure ProfileSlot where
  status : ProfileStatus
  items : List Item
  settle : Timer
  deriving DecidableEq, Repr

/-- The operating state controller (chapter 2). `fallbackWaiting`: a fallback start left for the LIGHT settle end (R31). -/
structure Ops where
  part : PartState
  plant : ProfileSlot
  fog : ProfileSlot
  heat : ProfileSlot
  light : ProfileSlot
  spacing : Timer
  warmUp : Timer
  sweepList : List Group
  failedCount : Nat
  sweptCount : Nat
  silence : Timer
  resetCause : ResetCause
  powerFlag : Bool
  fallbackWaiting : Bool
  deriving DecidableEq, Repr

/-! ### PRB -/

/-- One channel: its reading record (R37) and calibration mark (R38). -/
structure Channel where
  value : Int
  quality : Quality
  age : Nat
  mark : CalMark
  deriving DecidableEq, Repr

/-- A group schedule (R39); bit k of the mask enables channel k. -/
structure Schedule where
  period : Nat
  warmUp : Nat
  stale : Nat
  mask : BitVec 8
  deriving DecidableEq, Repr

/-- One probe group (R40). `second` counts the tick between the sweep samples, `held` is the first of them (R48). -/
structure GroupRec where
  state : GroupState
  period : Timer
  wake : Timer
  second : Timer
  held : Option (Vector Int 8)
  subLimit : Timer
  schedule : Option Schedule
  chans : Vector Channel 8
  deriving DecidableEq, Repr

/-! ### CND -/

/-- What a set threshold holds (R58). -/
structure ThresholdItems where
  channel : Fin 40
  limit : Int
  direction : Direction
  hysteresis : Int
  deriving DecidableEq, Repr

/-- A probe threshold: its items, or none when unset, and its level (R58, R59). -/
structure Threshold where
  items : Option ThresholdItems
  active : Bool
  deriving DecidableEq, Repr

/-- A cell's mode with the items that mode takes (R60); a slot names a source (R55). -/
inductive CellConfig
  | none
  | table (slot0 slot1 slot2 : Fin 45) (outcomes : BitVec 8)
  | delay (trigger : Fin 45) (count : Nat) (clock : CellClock) (edge : EdgeSel)
  | oneshot (trigger : Fin 45) (count : Nat) (clock : CellClock) (edge : EdgeSel)
  | rate (trigger : Fin 45) (count : Nat) (clock : CellClock) (edge : EdgeSel)
  | edge (trigger : Fin 45) (clock : CellClock) (edge : EdgeSel)
  | count (restart pause : Fin 45) (count : Nat) (clock : CellClock)
  deriving DecidableEq, Repr

/-- A condition cell. `seen0` to `seen2`: the level last seen on each slot; `n`: the count so far. -/
structure Cell where
  config : CellConfig
  out : Bool
  tickView : Bool
  phase : CellPhase
  n : Nat
  seen0 : Bool
  seen1 : Bool
  seen2 : Bool
  deriving DecidableEq, Repr

/-- A gate's binding and latched level (R70, R71). -/
structure Gate where
  binding : Option (Fin 16)
  level : Bool
  deriving DecidableEq, Repr

/-- The counting input settings (R72). -/
structure CountSettings where
  entryDebounce : Nat
  exitDebounce : Nat
  surgeCount : Nat
  surgeWindow : Nat
  deriving DecidableEq, Repr

/-- The phase of a counting input (R72). -/
inductive InputPhase
  | low | rising (high : Nat) | held
  deriving DecidableEq, Repr

/-- The condition array (chapter 4). `baseDue`: the base-tick event of this tick is not yet taken; `clocksTaken`: its
step 1 has been taken, by the row of a completion (log 8). -/
structure Cnd where
  fi : Vector Bool 8
  thresholds : Vector Threshold 8
  cells : Vector Cell 16
  gates : Vector Gate 14
  divider : Nat
  baseDue : Bool
  clocksTaken : Bool
  settings : Option CountSettings
  entryPhase : InputPhase
  exitPhase : InputPhase
  entryLevel : Bool
  exitLevel : Bool
  occupancy : Nat
  surge : List TickCount
  crowdSurge : Bool
  deriving DecidableEq, Repr

/-! ### PLT -/

/-- The profile items of one compressor stage (R75). -/
structure StageSettings where
  capacity : Nat
  recovery : Nat
  minRun : Nat
  minOff : Nat
  startLimit : Nat
  stopTime : Nat
  deriving DecidableEq, Repr

/-- The profile items of one host-chosen ice state (R75). -/
structure ModeSettings where
  bandLow : Int
  bandHigh : Int
  ceiling : Int
  baseLoad : Nat
  factor : Nat
  deriving DecidableEq, Repr

/-- The PLANT profile's values (R75). -/
structure PlantProfile where
  stages : Vector StageSettings 6
  reserve : Nat
  stopHysteresis : Nat
  modes : Vector ModeSettings 4
  flood : Nat
  recoverLimit : Nat
  softMargin : Int
  softDelay : Nat
  softClear : Nat
  gain : Nat
  credit : Nat
  approach : Int
  subfloorLimit : Int
  subfloorGain : Nat
  subfloorMax : Nat
  derateStart : Int
  derateEnd : Int
  crowd : Nat
  night : Nat
  silence : Nat
  exitMargin : Nat
  scheduleA : Schedule
  scheduleC : Schedule
  deriving DecidableEq, Repr

/-- A compressor stage (R88). `minDue`: the passing of its minimum at this tick is not yet taken (R91). -/
structure Stage where
  state : StageState
  cause : LockCause
  ticks : Nat
  startTimer : Timer
  stopTimer : Timer
  confirm : Bool
  minDue : Bool
  deriving DecidableEq, Repr

/-- The plant coordinator (chapter 5). `recoverTicks`: ticks since the entry to RECOVER; `secondDue`: a whole second
in RECOVER not yet posted (R83); `confirmDue`: the confirm inputs are not yet read at this tick (R92, log 34);
`boostHeld`: PLANT_BOOST was active at the entry to RUN and has not changed since (R77, log 36). -/
structure Plt where
  profile : Option PlantProfile
  ice : IceState
  prior : Option IceMode
  request : Int
  applied : Int
  mean : Option Int
  softWatch : Timer
  softClear : Timer
  recover : Timer
  recoverTicks : Nat
  secondDue : Bool
  stages : Vector Stage 6
  confirmDue : Bool
  boostHeld : Bool
  supply : Nat
  derate : Nat
  subfloor : Nat
  brineOut : Int
  deriving DecidableEq, Repr

/-! ### ILT -/

/-- An update from the plant coordinator (R100): the figures it carries. -/
structure PlantUpdate where
  base : Option Nat
  resurface : Option Nat
  fogRaise : Option Int
  factor : Option Nat
  capacity : Option Nat
  crowd : Option Nat
  reserve : Option Nat
  exitMargin : Option Nat
  deriving DecidableEq, Repr

/-- A posting to the ice load table (R104). -/
inductive LoadPosting
  | plant (u : PlantUpdate)
  | occupancy (n : Nat)
  | lighting (n : Nat)
  | stands (n : Nat)
  deriving DecidableEq, Repr

/-- The ice load table (chapter 6). `posted`: STANDS as posted, which becomes the entry when the table forms it;
`live`: the update at the entry to RUN has been taken (R104). -/
structure Ilt where
  base : Int
  crowd : Int
  lighting : Int
  stands : Int
  resurface : Int
  fogRaise : Int
  lightLoad : Nat
  factor : Nat
  occupancy : Nat
  crowdPer : Option Nat
  reserve : Option Nat
  exitMargin : Option Nat
  posted : Nat
  capacity : Nat
  rawSum : Int
  total : Int
  admission : Int
  overBudget : Bool
  dwell : Timer
  hold : Timer
  live : Bool
  deriving DecidableEq, Repr

/-! ### HAT -/

/-- A posting to the heat allocation table (R113). -/
inductive HeatPosting
  | plant (supply : Option Nat) (subfloor : Option Nat)
  | fogWatch (demand : Nat) (cls : Nat)
  | zones (demands : List (Fin 8 × Nat))
  deriving DecidableEq, Repr

/-- A row record (R111) with its valve's position (R120). -/
structure HeatRow where
  cls : Nat
  posted : Nat
  max : Nat
  demand : Nat
  grant : Nat
  state : RowState
  valve : Nat
  deriving DecidableEq, Repr

/-- The heat allocation table (chapter 7). -/
structure Hat where
  supply : Nat
  posted : Bool
  used : Nat
  rows : Vector HeatRow 11
  rejected : Nat
  rejectValve : Nat
  heatShort : Bool
  deriving DecidableEq, Repr

/-! ### SPH -/

/-- The profile items of one zone (R124). -/
structure ZoneSettings where
  nearIce : Bool
  max : Nat
  gain : Nat
  setback : Int
  preheat : Nat
  spill : Nat
  stageKw : Nat
  stageCount : Nat
  deriving DecidableEq, Repr

/-- The HEAT profile's values (R124). -/
structure HeatProfile where
  zones : Vector ZoneSettings 8
  stageCap : Nat
  minOn : Nat
  budgetCap : Nat
  meltMax : Nat
  scheduleD : Schedule
  deriving DecidableEq, Repr

/-- A supplementary stage (R133). -/
structure HeaterStage where
  on : Bool
  minOn : Timer
  deriving DecidableEq, Repr

/-- A stand zone (R127). -/
structure Zone where
  state : ZoneState
  remembered : Option ZoneState
  target : Option Int
  preheat : Timer
  raw : Nat
  demand : Nat
  grant : Nat
  row : RowState
  heaters : Vector HeaterStage 3
  deriving DecidableEq, Repr

/-- Spectator heating (chapter 8). -/
structure Sph where
  profile : Option HeatProfile
  zones : Vector Zone 8
  fogCap : Nat
  secondary : Bool
  overBudget : Bool
  soft : Bool
  stands : Nat
  deriving DecidableEq, Repr

/-! ### FGW -/

/-- An action row of the FOG profile (R139). -/
structure FogRow where
  desiccant : Nat
  fan : Nat
  raise : Int
  cap : Nat
  deriving DecidableEq, Repr

/-- The FOG profile's values (R139). -/
structure FogProfile where
  watchAt : Int
  alertAt : Int
  fogAt : Int
  hysteresis : Int
  dwell : Nat
  rows : Vector FogRow 4
  blindLimit : Nat
  starveLimit : Nat
  effectMin : Int
  scheduleB : Schedule
  scheduleE : Schedule
  deriving DecidableEq, Repr

/-- The fog watch (chapter 9); the `posted…` fields are its outputs as last posted (R149). -/
structure Fgw where
  profile : Option FogProfile
  level : FogLevel
  layers : Vector (Option Int) 4
  spread : Option Int
  dwell : Timer
  blind : Timer
  starve : Timer
  secondary : Bool
  weak : Bool
  fogSeen : Bool
  doorOpen : Bool
  grant : Nat
  row : RowState
  postedDemand : Nat
  postedClass : Nat
  postedRaise : Int
  postedCap : Nat
  postedSecondary : Bool
  haze : Bool
  fan : Nat
  deriving DecidableEq, Repr

/-! ### EVL -/

/-- The LIGHT profile's values (R153). -/
structure LightProfile where
  classes : Vector (Fin 4) 24
  retention : Nat
  fallbackList : Nat
  fallbackCue : Nat
  deferLimit : Nat
  strobeInterval : Nat
  strobePulse : Nat
  deriving DecidableEq, Repr

/-- A fade (R156), with the ticks elapsed since its start tick. -/
structure Fade where
  start : Nat
  goal : Nat
  elapsed : Nat
  duration : Nat
  deriving DecidableEq, Repr

/-- A dimmer channel (R155). -/
structure Dimmer where
  driven : Bool
  working : Nat
  applied : Nat
  fade : Option Fade
  cls : Option (Fin 4)
  deriving DecidableEq, Repr

/-- The most-recent cue (R163). -/
structure RecentCue where
  list : Nat
  number : Nat
  load : Nat
  follow : Option Nat
  deriving DecidableEq, Repr

/-- An entry of the posted queue (R164), with the ticks left to its due tick. -/
structure PostedCue where
  list : Nat
  number : Nat
  left : Nat
  deriving DecidableEq, Repr

/-- The deferred cue (R168), with the ticks left on its defer timer and the ticks it has spent in the slot. -/
structure DeferredCue where
  list : Nat
  number : Nat
  left : Nat
  spent : Nat
  deriving DecidableEq, Repr

/-- Event lighting (chapter 10). `sinceFlash`: ticks since the last accepted flash, counted to 65535. -/
structure Evl where
  profile : Option LightProfile
  memory : List CueRecord
  dimmers : Vector Dimmer 24
  want0 : Bool
  want2 : Bool
  want3 : Bool
  pulse : Timer
  sinceFlash : Option Nat
  dropReported : Bool
  hazeInhibit : Bool
  strobeInhibit : Bool
  play : PlayState
  position : Option (Nat × Nat)
  recent : Option RecentCue
  fadeEnd : Timer
  follow : Timer
  releaseTimer : Timer
  posted : List PostedCue
  deferred : Option DeferredCue
  lightLoad : Nat
  deriving DecidableEq, Repr

/-! ### What one block has handed another and the other has not yet taken (log 3) -/

/-- A near-ice input of spectator heating (R131). -/
inductive CapInput
  | fogCap (percent : Nat)
  | secondary (on : Bool)
  | overBudget (set : Bool)
  | soft (on : Bool)
  deriving DecidableEq, Repr

/-- Transfers in progress, oldest first. -/
structure Transit where
  loads : List LoadPosting
  heats : List HeatPosting
  tableUpdates : Nat
  tableChanges : Nat
  zoneGrants : List (Vector (Nat × RowState) 8)
  desiccants : List (Nat × RowState)
  raises : List Int
  caps : List CapInput
  deriving DecidableEq, Repr

/-- The state of the part, and the queue of the commands that wait, first in, first out. -/
structure State where
  tick : TickCount
  link : Link
  ops : Ops
  prb : Vector GroupRec 5
  cnd : Cnd
  plt : Plt
  ilt : Ilt
  hat : Hat
  sph : Sph
  fgw : Fgw
  evl : Evl
  transit : Transit
  pending : List Instr
  deriving DecidableEq, Repr

/-- The reasons a step can stop with a fault: none. The manual gives the part no event that stops it; link faults (R4)
and refused requests (R11) are effects on State. Safe: no constructor, so nothing raises one. -/
inductive Fault
  deriving DecidableEq, Repr

/-- The reasons a step can be refused. -/
inductive Refusal
  /-- Raised by exec's arm of a row that has no meaning yet, and by nothing else. Safe: the machine stops. -/
  | notModelled (mnemonic : String)
  deriving DecidableEq, Repr

/-! ### The machine right after reset -/

/-- A profile after reset (R18). -/
def ProfileSlot.reset : ProfileSlot := { status := .absent, items := [], settle := none }

/-- LINK after reset, with the rate the SPEED strap selects (R2 to R6, R10, R13). -/
def Link.reset (strap : Bool) : Link :=
  { rx := .hunt, gap := none, faults := { stopBit := 0, gap := 0, length := 0, check := 0, last := none },
    intake := [], busyMark := none, overrun := false, dispatcher := .free, replies := [], tx := none,
    fastRate := strap, notices := [], noticesLost := false }

/-- OPS after reset (the table of chapter 2). -/
def Ops.reset (cause : ResetCause) (powerFlag : Bool) : Ops :=
  { part := .unconfigured, plant := .reset, fog := .reset, heat := .reset, light := .reset, spacing := none,
    warmUp := none, sweepList := [], failedCount := 0, sweptCount := 0, silence := none, resetCause := cause,
    powerFlag := powerFlag, fallbackWaiting := false }

/-- A channel after reset (R37, R38). -/
def Channel.reset : Channel := { value := 0, quality := .absent, age := 0, mark := .uncal }

/-- A probe group after reset (the table of chapter 3). -/
def GroupRec.reset : GroupRec :=
  { state := .asleep, period := none, wake := none, second := none, held := none, subLimit := none,
    schedule := none, chans := Vector.replicate 8 Channel.reset }

/-- A cell after reset (the table of chapter 4). -/
def Cell.reset : Cell :=
  { config := .none, out := false, tickView := false, phase := .idle, n := 0, seen0 := false, seen1 := false,
    seen2 := false }

/-- CND after reset (the table of chapter 4); the sampled levels of ENTRY and EXIT by log 33. -/
def Cnd.reset : Cnd :=
  { fi := Vector.replicate 8 false, thresholds := Vector.replicate 8 { items := none, active := false },
    cells := Vector.replicate 16 Cell.reset, gates := Vector.replicate 14 { binding := none, level := false },
    divider := 0, baseDue := false, clocksTaken := false, settings := none, entryPhase := .low, exitPhase := .low,
    entryLevel := false, exitLevel := false, occupancy := 0, surge := [], crowdSurge := false }

/-- A stage after reset (the table of chapter 5). -/
def Stage.reset : Stage :=
  { state := .off, cause := .none, ticks := 0, startTimer := none, stopTimer := none, confirm := false,
    minDue := false }

/-- PLT after reset (the table of chapter 5); the brine setpoint output is parked at -7.00 (R35). -/
def Plt.reset : Plt :=
  { profile := none, ice := .hold, prior := none, request := 0, applied := 0, mean := none, softWatch := none,
    softClear := none, recover := none, recoverTicks := 0, secondDue := false,
    stages := Vector.replicate 6 Stage.reset, confirmDue := false, boostHeld := false, supply := 0, derate := 100,
    subfloor := 0, brineOut := -700 }

/-- ILT after reset (the table of chapter 6). -/
def Ilt.reset : Ilt :=
  { base := 0, crowd := 0, lighting := 0, stands := 0, resurface := 0, fogRaise := 0, lightLoad := 0, factor := 0,
    occupancy := 0, crowdPer := none, reserve := none, exitMargin := none, posted := 0, capacity := 0, rawSum := 0,
    total := 0, admission := 0, overBudget := false, dwell := none, hold := none, live := false }

/-- The class of a row after reset (R111). -/
def HeatRow.resetClass (r : Nat) : Nat := if r = 0 then 0 else if r = 1 then 3 else if r = 10 then 4 else 2

/-- HAT after reset (R111); the valves are parked (R35). -/
def Hat.reset : Hat :=
  { supply := 0, posted := false, used := 0,
    rows := Vector.ofFn fun r : Fin 11 =>
      { cls := HeatRow.resetClass r.val, posted := 0, max := 0, demand := 0, grant := 0, state := .idle, valve := 0 },
    rejected := 0, rejectValve := 100, heatShort := false }

/-- A zone after reset (the table of chapter 8). -/
def Zone.reset : Zone :=
  { state := .off, remembered := none, target := none, preheat := none, raw := 0, demand := 0, grant := 0,
    row := .idle, heaters := Vector.replicate 3 { on := false, minOn := none } }

/-- SPH after reset (the table of chapter 8). -/
def Sph.reset : Sph :=
  { profile := none, zones := Vector.replicate 8 Zone.reset, fogCap := 100, secondary := false,
    overBudget := false, soft := false, stands := 0 }

/-- FGW after reset (the table of chapter 9); the fan stage is parked at 0 (R35). -/
def Fgw.reset : Fgw :=
  { profile := none, level := .clear, layers := Vector.replicate 4 none, spread := none, dwell := none,
    blind := none, starve := none, secondary := false, weak := false, fogSeen := false, doorOpen := false, grant := 0,
    row := .idle, postedDemand := 0, postedClass := 3, postedRaise := 0, postedCap := 100, postedSecondary := false,
    haze := true, fan := 0 }

/-- A dimmer channel after reset (R155). -/
def Dimmer.reset : Dimmer := { driven := false, working := 0, applied := 0, fade := none, cls := none }

/-- EVL after reset, with the cue memory the kind of reset leaves (the table of chapter 10, R33). -/
def Evl.reset (memory : List CueRecord) : Evl :=
  { profile := none, memory := memory, dimmers := Vector.replicate 24 Dimmer.reset, want0 := false, want2 := false,
    want3 := false, pulse := none, sinceFlash := none, dropReported := false, hazeInhibit := false,
    strobeInhibit := false, play := .idle, position := none, recent := none, fadeEnd := none, follow := none,
    releaseTimer := none, posted := [], deferred := none, lightLoad := 0 }

/-- Nothing is on its way from block to block after reset (log 3). -/
def Transit.reset : Transit :=
  { loads := [], heats := [], tableUpdates := 0, tableChanges := 0, zoneGrants := [], desiccants := [], raises := [],
    caps := [] }

/-- Every block at its reset values, for a reset of the given cause (R33). The queue is the sender's and is given. -/
def State.afterReset (cause : ResetCause) (powerFlag strap : Bool) (memory : List CueRecord) (pending : List Instr) :
    State :=
  { tick := 0, link := .reset strap, ops := .reset cause powerFlag, prb := Vector.replicate 5 GroupRec.reset,
    cnd := .reset, plt := .reset, ilt := .reset, hat := .reset, sph := .reset, fgw := .reset, evl := .reset memory,
    transit := .reset, pending := pending }

/-- The machine right after a power-on reset with the SPEED strap low (log 5) and no command waiting. -/
def State.reset : State := .afterReset .powerOn true false [] []

end Sys2Proof.Machine
end

