-- ==== Sys2Proof/Machine/Codes.lean ====
section
/-! DEFINITION. The codes of R11, R176 and 11.4 (the order in which members are numbered), and the way back from a
code to its name. -/

namespace Sys2Proof.Machine

open Sys2Proof

/-- R176 profile kind. -/
def profileCode : ProfileKind → Nat
  | .plant => 0 | .fog => 1 | .heat => 2 | .light => 3

/-- The profile kind a code names; a code past the list is refused before this is asked (R12). -/
def profileOf (n : Nat) : ProfileKind :=
  match n with
  | 0 => .plant | 1 => .fog | 2 => .heat | _ => .light

/-- R176 profile status. -/
def statusCode : ProfileStatus → Nat
  | .absent => 0 | .settling => 1 | .loaded => 2

/-- R176 part state. -/
def partCode : PartState → Nat
  | .unconfigured => 0 | .configuring => 1 | .configured => 2 | .calibrating => 3 | .run => 4 | .nightHold => 5
  | .fallback => 6

/-- R176 reset cause. -/
def resetCode : ResetCause → Nat
  | .powerOn => 0 | .resetLine => 1 | .brownout => 2 | .restart => 3

/-- R176 link fault cause, NONE first. -/
def faultCode : Option LinkFault → Nat
  | none => 0 | some .stopBit => 1 | some .gap => 2 | some .length => 3 | some .check => 4

/-- R11 outcome. -/
def outcomeCode : ReplyOutcome → Nat
  | .done => 0 | .accepted => 1 | .deferred => 2 | .unknownKind => 3 | .badField => 4 | .incomplete => 5
  | .wrongState => 6 | .settling => 7 | .tooSoon => 8 | .noSpace => 9 | .notFound => 10 | .busy => 11
  | .notConfigured => 12

/-- R36, R176 group: the group's number, and its place among the five. -/
def groupIdx : Group → Fin 5
  | .a => 0 | .b => 1 | .c => 2 | .d => 3 | .e => 4

/-- The group a code names. -/
def groupOf (n : Nat) : Group :=
  match n with
  | 0 => .a | 1 => .b | 2 => .c | 3 => .d | _ => .e

/-- The five groups in order. -/
def allGroups : List Group := [.a, .b, .c, .d, .e]

/-- R176 group state. -/
def groupStateCode : GroupState → Nat
  | .asleep => 0 | .waking => 1 | .calibrating => 2 | .substituted => 3

/-- R176 quality. -/
def qualityCode : Quality → Nat
  | .good => 0 | .stale => 1 | .range => 2 | .absent => 3 | .substituted => 4

/-- R176 cell mode. -/
def modeCode : CellConfig → Nat
  | .none => 0 | .table .. => 1 | .delay .. => 2 | .oneshot .. => 3 | .rate .. => 4 | .edge .. => 5 | .count .. => 6

/-- R176 cell clock. -/
def clockCode : CellClock → Nat
  | .base => 0 | .second => 1 | .chain => 2

/-- The clock a code names. -/
def clockOf (n : Nat) : CellClock :=
  match n with
  | 0 => .base | 1 => .second | _ => .chain

/-- R176 edge. -/
def edgeCode : EdgeSel → Nat
  | .rise => 0 | .fall => 1 | .both => 2

/-- The edge selection a code names. -/
def edgeOf (n : Nat) : EdgeSel :=
  match n with
  | 0 => .rise | 1 => .fall | _ => .both

/-- The direction a code names (R176). -/
def directionOf (n : Nat) : Direction :=
  match n with
  | 0 => .above | _ => .below

/-- R176 ice state. -/
def iceCode : IceState → Nat
  | .hold => 0 | .practice => 1 | .game => 2 | .covered => 3 | .resurface => 4 | .recover => 5 | .soft => 6

/-- The ice state a code names. -/
def iceOf (n : Nat) : IceState :=
  match n with
  | 0 => .hold | 1 => .practice | 2 => .game | 3 => .covered | 4 => .resurface | 5 => .recover | _ => .soft

/-- The place of a host-chosen ice state among the four (11.4). -/
def iceModeIdx : IceMode → Fin 4
  | .hold => 0 | .practice => 1 | .game => 2 | .covered => 3

/-- A host-chosen state as an ice state. -/
def iceOfMode : IceMode → IceState
  | .hold => .hold | .practice => .practice | .game => .game | .covered => .covered

/-- The host-chosen state an ice state is, if it is one of the four (R78). -/
def modeOfIce : IceState → Option IceMode
  | .hold => some .hold | .practice => some .practice | .game => some .game | .covered => some .covered
  | .resurface => none | .recover => none | .soft => none

/-- R176 stage state. -/
def stageCode : StageState → Nat
  | .off => 0 | .starting => 1 | .running => 2 | .stopping => 3 | .lockedOut => 4

/-- R176 lockout cause. -/
def lockCode : LockCause → Nat
  | .none => 0 | .noConfirm => 1 | .confirmLost => 2 | .host => 3

/-- R176 row state. -/
def rowCode : RowState → Nat
  | .idle => 0 | .satisfied => 1 | .partial_ => 2 | .starved => 3

/-- R176 zone state. -/
def zoneCode : ZoneState → Nat
  | .off => 0 | .preheat => 1 | .occupied => 2 | .setback => 3 | .inhibited => 4

/-- R176 fog level, the better the lower (R143). -/
def fogRank : FogLevel → Fin 4
  | .clear => 0 | .watch => 1 | .alert => 2 | .fog => 3

/-- The level of a rank. -/
def fogOfRank (n : Nat) : FogLevel :=
  match n with
  | 0 => .clear | 1 => .watch | 2 => .alert | _ => .fog

/-- R176 playback state. -/
def playCode : PlayState → Nat
  | .idle => 0 | .fading => 1 | .waiting => 2 | .releasing => 3

/-- R176 policy. -/
def policyCode : CuePolicy → Nat
  | .defer => 0 | .trim => 1 | .force => 2

/-- The policy a code names. -/
def policyOf (n : Nat) : CuePolicy :=
  match n with
  | 0 => .defer | 1 => .trim | _ => .force

/-- R176 cue drop cause. -/
def dropCode : DropCause → Nat
  | .displaced => 0 | .deferExpired => 1 | .released => 2 | .erased => 3 | .noSpace => 4

/-- R176 notice kind, from 1. -/
def noticeCode : NoticeKind → Nat
  | .iceState => 1 | .softIce => 2 | .stageLockout => 3 | .overBudget => 4 | .heatShortfall => 5 | .fogLevel => 6
  | .fogBlind => 7 | .probeFault => 8 | .cueDeferred => 9 | .cueTrimmed => 10 | .cueDropped => 11
  | .cueLateStart => 12 | .strobeLimit => 13 | .calibrationDone => 14 | .profileSettled => 15
  | .retentionPurge => 16 | .fallback => 17

/-- A flag or level: 0 for off, 1 for on (R176). -/
def flagCode (b : Bool) : Nat := if b then 1 else 0

end Sys2Proof.Machine
end

