-- ==== Sys2Proof/Machine/Ops.lean ====
section
/-! DEFINITION. The operations every block uses: countdown timers, tables of fixed size, the notice queue (R13), the
reply path and the transmitter (R6, R10), and the handing of figures from block to block (log 3). -/

namespace Sys2Proof.Machine

open Sys2Proof

/-! ### Timers -/

/-- One tick passes for a timer (R1). -/
def tickTimer (t : Timer) : Timer := t.map (· - 1)

/-- The timer has expired and its expiry event is still to be taken. -/
def dueTimer (t : Timer) : Bool := t == some 0

/-- The ticks left, 0 when idle, as the read replies give them. -/
def leftTimer (t : Timer) : Nat := t.getD 0

/-- A condition's timer (R84, R85, R107, R144, R151): loaded when the condition holds and it is idle, left running
while it holds, idle when it does not hold. -/
def watchTimer (holds : Bool) (load : Nat) (t : Timer) : Timer :=
  if holds then (if t.isSome then t else some load) else none

/-! ### Tables of fixed size -/

/-- The table whose entry at each place is a function of the entry there. -/
def tabMap {α β : Type} {n : Nat} (f : α → β) (v : Vector α n) : Vector β n := Vector.ofFn fun i : Fin n => f v[i]

/-- The table with the entry at one place changed. -/
def upd {α : Type} {n : Nat} (v : Vector α n) (i : Fin n) (f : α → α) : Vector α n := v.set i.val (f v[i]) i.isLt

/-- The places of a table that satisfy a test, in rising order. -/
def places (n : Nat) (p : Fin n → Bool) : List (Fin n) := (List.finRange n).filter p

/-- The sum over the places of a table. -/
def sumOver (n : Nat) (f : Fin n → Nat) : Nat := ((List.finRange n).map f).sum

/-- Some place satisfies the test. -/
def anyOf (n : Nat) (p : Fin n → Bool) : Bool := (List.finRange n).any p

/-- Every place satisfies the test. -/
def allOf (n : Nat) (p : Fin n → Bool) : Bool := (List.finRange n).all p

/-- The first entry of a list that satisfies a test, and the list without it. -/
def takeFirst {α : Type} (p : α → Bool) : List α → Option (α × List α)
  | [] => none
  | x :: xs => if p x then some (x, xs) else (takeFirst p xs).map fun r => (r.1, x :: r.2)

/-! ### Arithmetic -/

/-- A quotient rounded up; 0 for a divisor of 0, which no rule's divisor is. -/
def ceilDiv (a b : Nat) : Nat := (a + (b - 1)) / b

/-- A signed figure clipped to 0 and an upper bound (R97, R130). -/
def clip (v : Int) (hi : Nat) : Nat := min v.toNat hi

/-! ### Notices (R13) -/

/-- The notice queue's capacity. -/
def noticeCapacity : Nat := 32

/-- A notice joins the tail; at capacity the oldest record is discarded and the notices-lost flag is set. -/
def State.post (s : State) (kind : NoticeKind) (source : Nat) (first second : Int) : State :=
  let record : Notice := { kind := kind, source := source, stamp := s.tick, first := first, second := second }
  if s.link.notices.length < noticeCapacity then
    { s with link.notices := s.link.notices ++ [record] }
  else
    { s with link.notices := s.link.notices.drop 1 ++ [record], link.noticesLost := true }

/-! ### Reply path and transmitter (R6, R10, R11) -/

/-- The BUSY reply: kind 0xFF, outcome BUSY and the overrun flag as its one item (R6, R11). -/
def busyReply (tag : Byte) (overrun : Bool) : Reply :=
  { tag := tag, kind := 0xFF, body := [11, 0x10, 1, if overrun then 1 else 0], restart := false }

/-- The idle transmitter starts the BUSY reply when a tag is marked, else the reply at the head of the path (R6, R10). -/
def Link.startTx (l : Link) : Link :=
  match l.tx with
  | some _ => l
  | none =>
    match l.busyMark with
    | some tag => { l with tx := some (busyReply tag l.overrun), busyMark := none, overrun := false }
    | none =>
      match l.replies with
      | [] => l
      | r :: rest => { l with tx := some r, replies := rest }

/-- A reply joins the tail of the reply path (R7); an idle transmitter starts at once. -/
def State.pushReply (s : State) (r : Reply) : State :=
  { s with link := { s.link with replies := s.link.replies ++ [r] }.startTx }

/-! ### Handing figures to another block (log 3) -/

/-- A posting on its way to the ice load table (R104). -/
def State.postLoad (s : State) (p : LoadPosting) : State := { s with transit.loads := s.transit.loads ++ [p] }

/-- A posting on its way to the heat allocation table (R113). -/
def State.postHeat (s : State) (p : HeatPosting) : State := { s with transit.heats := s.transit.heats ++ [p] }

/-- A raise request on its way to the plant coordinator (R86, R149). -/
def State.postRaise (s : State) (r : Int) : State := { s with transit.raises := s.transit.raises ++ [r] }

/-- A near-ice input on its way to spectator heating (R131). -/
def State.postCap (s : State) (c : CapInput) : State := { s with transit.caps := s.transit.caps ++ [c] }

/-- An update that carries nothing, to be filled in. -/
def PlantUpdate.empty : PlantUpdate :=
  { base := none, resurface := none, fogRaise := none, factor := none, capacity := none, crowd := none,
    reserve := none, exitMargin := none }

/-! ### The part state (R17, R35) -/

/-- The jobs run: the part has entered RUN since the last reset (R17). -/
def running (s : State) : Bool :=
  match s.ops.part with
  | .run | .nightHold | .fallback => true
  | .unconfigured | .configuring | .configured | .calibrating => false

/-- A profile's slot. -/
def slotOf (o : Ops) : ProfileKind → ProfileSlot
  | .plant => o.plant | .fog => o.fog | .heat => o.heat | .light => o.light

/-- The OPS record with one profile's slot replaced. -/
def setSlot (o : Ops) (p : ProfileKind) (x : ProfileSlot) : Ops :=
  match p with
  | .plant => { o with plant := x }
  | .fog => { o with fog := x }
  | .heat => { o with heat := x }
  | .light => { o with light := x }

/-- The profile is settling (R21). -/
def settling (s : State) (p : ProfileKind) : Bool := (slotOf s.ops p).status == .settling

/-- A job's settling state, or no job: no settling. -/
def settlingJob (s : State) : Option ProfileKind → Bool
  | none => false
  | some p => settling s p

/-- All four profiles are LOADED (R17). -/
def allLoaded (s : State) : Bool :=
  s.ops.plant.status == .loaded && s.ops.fog.status == .loaded && s.ops.heat.status == .loaded
    && s.ops.light.status == .loaded

/-! ### Probe records (R37) -/

/-- A reading is usable when its quality is GOOD or SUBSTITUTED (R37). -/
def Channel.usable (c : Channel) : Bool := c.quality == .good || c.quality == .substituted

/-- The record of a channel of a group. -/
def reading (s : State) (g : Group) (k : Fin 8) : Channel := s.prb[groupIdx g].chans[k]

/-- A group's record replaced. -/
def setGroup (s : State) (g : Group) (f : GroupRec → GroupRec) : State := { s with prb := upd s.prb (groupIdx g) f }

/-- The usable value of a channel, or none. -/
def usableValue (s : State) (g : Group) (k : Fin 8) : Option Int :=
  if (reading s g k).usable then some (reading s g k).value else none

/-- Some probe group is SUBSTITUTED (R22, R79). -/
def anySubstituted (s : State) : Bool := allGroups.any fun g => s.prb[groupIdx g].state == .substituted

/-- A channel is a dew point channel: B4 to B7, E1, E2, E3 and E5 (R36). -/
def isDewPoint (g : Group) (k : Nat) : Bool :=
  match g with
  | .b => decide (4 ≤ k)
  | .e => k == 1 || k == 2 || k == 3 || k == 5
  | .a | .c | .d => false

/-- The upper end of a channel's range, in hundredths (R36). -/
def rangeHigh (g : Group) (k : Nat) : Int := if isDewPoint g k then 4000 else 8000

/-- A value within a channel's range (R36). -/
def inRange (g : Group) (k : Nat) (v : Int) : Bool := decide (-5000 ≤ v ∧ v ≤ rangeHigh g k)

/-- The group of channel number n, 0 to 39 (R36). -/
def groupOfChannel (n : Fin 40) : Group := groupOf (n.val / 8)

/-- The place of channel number n in its group (R36). -/
def placeOfChannel (n : Fin 40) : Fin 8 := Fin.ofNat 8 n.val

end Sys2Proof.Machine
end

