-- ==== Sys2Proof/Machine/Operands.lean ====
section
/-! DEFINITION. The operands of the block: frames and their check (R3, chapter 11), the item tables of requests and
profiles with the checks of R12 (R75, R124, R139, R153, R178, R179), and the encoding of reply figures (R174). -/

namespace Sys2Proof.Machine

open Sys2Proof

/-! ### Frames -/

/-- One bit of the CRC with polynomial 0x1021, most significant bit first (R3). -/
def crcBit (c : BitVec 16) : BitVec 16 := if c.msb then (c <<< 1) ^^^ 0x1021#16 else c <<< 1

/-- One byte of the CRC (R3). -/
def crcByte (c : BitVec 16) (b : Byte) : BitVec 16 :=
  let c := c ^^^ (b.zeroExtend 16 <<< 8)
  crcBit (crcBit (crcBit (crcBit (crcBit (crcBit (crcBit (crcBit c)))))))

/-- The check over a run of bytes: initial value 0xFFFF, no final inversion (R3). -/
def crc (bytes : List Byte) : BitVec 16 := bytes.foldl crcByte 0xFFFF#16

/-- The bytes a number is sent in, low byte first (R174). -/
def le (n v : Nat) : List Byte := (List.range n).map fun i => BitVec.ofNat 8 (v / 256 ^ i)

/-- The number that bytes give, low byte first (R174). -/
def ofLe : List Byte → Nat
  | [] => 0
  | b :: rest => b.toNat + 256 * ofLe rest

/-- A frame as it stands on the line (chapter 11, R10): start byte, length, tag, kind, body, check high byte first. -/
def wire (tag kind : Byte) (body : List Byte) : List Byte :=
  let counted := le 2 (body.length + 2) ++ tag :: kind :: body
  let c := crc counted
  0xD5 :: counted ++ [(c >>> 8).truncate 8, c.truncate 8]

/-! ### Item tables -/

/-- The range of an item's value (R12). -/
inductive Range
  | between (lo hi : Int)
  | oneOf (vals : List Int)
  | zeroOr (lo hi : Int)
  /-- A channel entry: the channel byte, then the level (R178). -/
  | entry
  deriving DecidableEq, Repr

/-- The value lies in the range. -/
def Range.holds : Range → Int → Bool
  | .between lo hi, v => decide (lo ≤ v ∧ v ≤ hi)
  | .oneOf vals, v => vals.contains v
  | .zeroOr lo hi, v => decide (v = 0 ∨ (lo ≤ v ∧ v ≤ hi))
  | .entry, v => decide (v % 256 ≤ 23 ∧ v / 256 ≤ 1000)

/-- One row of an item table: id, length in bytes, signed or not, range, how many may stand, and whether the repeats
must differ in their first byte (R12, R178). -/
structure ItemSpec where
  id : Nat
  len : Nat
  signed : Bool
  range : Range
  most : Nat
  distinct : Bool
  deriving DecidableEq, Repr

/-- A one-byte item of a range. -/
def one (id : Nat) (lo hi : Int) : ItemSpec :=
  { id := id, len := 1, signed := false, range := .between lo hi, most := 1, distinct := false }

/-- A two-byte unsigned item of a range. -/
def two (id : Nat) (lo hi : Int) : ItemSpec :=
  { id := id, len := 2, signed := false, range := .between lo hi, most := 1, distinct := false }

/-- A two-byte signed item in hundredths of a degree (R174). -/
def hundredths (id : Nat) (lo hi : Int) : ItemSpec :=
  { id := id, len := 2, signed := true, range := .between lo hi, most := 1, distinct := false }

/-- A range of ids with one row each, in member order (R179). -/
def members (first count : Nat) (f : Nat → ItemSpec) : List ItemSpec := (List.range count).map fun i => f (first + i)

/-- A group schedule's four items (R39, R179); 65535 lies in R39's ranges and is a value (log 31). -/
def scheduleItems (first : Nat) : List ItemSpec :=
  [two first 10 65535, two (first + 1) 1 1000, two (first + 2) 0 65535, one (first + 3) 0 255]

/-- The PLANT items (R75, R179). -/
def plantItems : List ItemSpec :=
  members 0x10 6 (two · 50 2000) ++ members 0x16 6 (two · 0 2500) ++ members 0x1C 6 (two · 0 60000)
  ++ members 0x22 6 (two · 0 60000) ++ members 0x28 6 (two · 1 6000) ++ members 0x2E 6 (two · 1 6000)
  ++ [two 0x34 0 12000, two 0x35 0 2000]
  ++ members 0x36 4 (hundredths · (-1000) 0) ++ members 0x3A 4 (hundredths · (-1000) 0)
  ++ members 0x3E 4 (hundredths · 0 300) ++ members 0x42 4 (two · 0 12000) ++ members 0x46 4 (one · 0 100)
  ++ [two 0x4A 0 5000, two 0x4B 1 60000, hundredths 0x4C 0 500, two 0x4D 1 60000, two 0x4E 1 60000,
      two 0x4F 0 2000, two 0x50 0 500, hundredths 0x51 0 1000,
      hundredths 0x52 (-500) 1000, two 0x53 0 1000, two 0x54 0 2000,
      hundredths 0x55 0 8000, hundredths 0x56 0 8000, two 0x57 0 300,
      { id := 0x58, len := 1, signed := false, range := .oneOf [1, 2, 4, 8], most := 1, distinct := false },
      { id := 0x59, len := 2, signed := false, range := .zeroOr 100 60000, most := 1, distinct := false },
      two 0x5A 0 12000]
  ++ scheduleItems 0x5B ++ scheduleItems 0x5F ++ [one 0x63 0 1]

/-- The FOG items (R139, R179). -/
def fogItems : List ItemSpec :=
  [hundredths 0x10 (-1000) 2000, hundredths 0x11 (-1000) 2000, hundredths 0x12 (-1000) 2000, hundredths 0x13 0 500,
   two 0x14 1 60000]
  ++ members 0x15 4 (two · 0 5000) ++ members 0x19 4 (one · 0 3) ++ members 0x1D 4 (hundredths · 0 300)
  ++ members 0x21 4 (one · 0 100) ++ [two 0x25 1 60000, two 0x26 1 60000, hundredths 0x27 0 2000]
  ++ scheduleItems 0x28 ++ scheduleItems 0x2C

/-- The HEAT items (R124, R179). -/
def heatItems : List ItemSpec :=
  members 0x10 8 (one · 0 1) ++ members 0x18 8 (two · 0 500) ++ members 0x20 8 (two · 0 500)
  ++ members 0x28 8 (hundredths · 0 3000) ++ members 0x30 8 (two · 1 60000) ++ members 0x38 8 (one · 0 100)
  ++ members 0x40 8 (one · 5 100) ++ members 0x48 8 (one · 0 3)
  ++ [one 0x50 0 24, two 0x51 10 6000, one 0x52 0 100, two 0x53 0 5000] ++ scheduleItems 0x54

/-- The LIGHT items (R153, R179); the period class is a choice of four (R176). -/
def lightItems : List ItemSpec :=
  members 0x10 24 (one · 0 3)
  ++ [one 0x28 0 16, one 0x29 1 16, two 0x2A 1 999, two 0x2B 1 60000, two 0x2C 5 1000, one 0x2D 1 10]

/-- The items of a profile (11.4). -/
def profileItems : ProfileKind → List ItemSpec
  | .plant => plantItems
  | .fog => fogItems
  | .heat => heatItems
  | .light => lightItems

/-- The items of a request other than PROFILE LOAD (R178), with the ranges its owning rule gives. The limit of THRESHOLD
SET takes any temperature but the none code, its range being a relation (R58, R174); a code of none that lies in an
owning rule's range is a value (log 31). -/
def requestItems (kind : Nat) : List ItemSpec :=
  match kind with
  | 0x02 => [one 0x10 0 1]
  | 0x03 => [one 0x10 1 8]
  | 0x11 => [one 0x01 0 3]
  | 0x12 => [{ id := 0x10, len := 1, signed := false, range := .between 0 4, most := 5, distinct := true }]
  | 0x20 => [one 0x10 0 4, one 0x11 0 7, one 0x12 0 1]
  | 0x21 => [one 0x10 0 4,
      { id := 0x11, len := 2, signed := true, range := .between (-5000) 8000, most := 8, distinct := false },
      two 0x12 1 60000]
  | 0x22 => [one 0x10 0 4]
  | 0x30 => [one 0x10 0 15, one 0x11 0 6, one 0x12 0 44, one 0x13 0 44, one 0x14 0 44, one 0x15 0 255,
      two 0x16 1 65535, one 0x17 0 2, one 0x18 0 2]
  | 0x31 => [one 0x10 0 15]
  | 0x32 => [one 0x10 0 7, one 0x11 0 39,
      hundredths 0x12 (-32767) 32767, one 0x13 0 1, hundredths 0x14 0 500]
  | 0x33 => [one 0x10 0 13, one 0x11 0 15]
  | 0x34 => [one 0x10 1 50, one 0x11 1 50, two 0x12 1 1000, two 0x13 1 6000]
  | 0x35 => [two 0x10 0 30000]
  | 0x40 => [one 0x10 0 5]
  | 0x41 => [one 0x10 1 6, one 0x11 0 1]
  | 0x50 => [one 0x10 1 8,
      { id := 0x11, len := 1, signed := false, range := .oneOf [0, 2, 3], most := 1, distinct := false },
      hundredths 0x12 0 3000]
  | 0x51 => [one 0x10 1 8]
  | 0x52 => [two 0x10 0 65535]
  | 0x60 => [one 0x10 1 16, two 0x11 1 999,
      { id := 0x12, len := 3, signed := false, range := .entry, most := 24, distinct := true },
      two 0x13 0 60000, two 0x14 0 6000, two 0x15 0 60000, two 0x16 0 2000, one 0x17 0 2, one 0x18 0 1, one 0x19 0 1,
      one 0x1A 0 1]
  | 0x61 => [one 0x10 1 16, two 0x11 1 999]
  | 0x62 => [one 0x10 1 16]
  | 0x63 => [one 0x10 1 16, two 0x11 1 999, one 0x12 1 1, two 0x13 0 6000]
  | 0x64 => [two 0x10 0 60000]
  | 0x65 => [one 0x10 0 1, one 0x11 0 1, one 0x12 0 1]
  | _ => []

/-! ### The item check (R12) -/

/-- What the item check finds: the items in body order, or the id of the offending item. -/
inductive Checked
  | ok (items : List Item)
  | bad (id : Nat)
  deriving DecidableEq, Repr

/-- The value of an item's bytes (R174). -/
def itemValue (signed : Bool) (bytes : List Byte) : Int :=
  let v := ofLe bytes
  if signed && decide (256 ^ bytes.length ≤ 2 * v) then (v : Int) - (256 : Int) ^ bytes.length else (v : Int)

/-- How many items of an id stand among the items. -/
def countOf (items : List Item) (id : Nat) : Nat := (items.filter fun i => i.id == id).length

/-- The value of the first item of an id. -/
def valueOf (items : List Item) (id : Nat) : Option Int := (items.find? fun i => i.id == id).map Item.val

/-- The values of every item of an id, in body order. -/
def valuesOf (items : List Item) (id : Nat) : List Int := (items.filter fun i => i.id == id).map Item.val

/-- The value of an item as a count; 0 where the body lacks it, which the checks rule out for required items. -/
def natOf (items : List Item) (id : Nat) : Nat := ((valueOf items id).getD 0).toNat

/-- The value of an item; 0 where the body lacks it. -/
def intOf (items : List Item) (id : Nat) : Int := (valueOf items id).getD 0

/-- The items of the body, checked one by one in body order (R12). `table` gives the row of an id, seeing the items
that stand before it; the first argument is the body's length, which bounds the number of items. -/
def checkItems (table : Nat → List Item → Option ItemSpec) : Nat → List Byte → List Item → Checked
  | _, [], seen => .ok seen
  | 0, b :: _, _ => .bad b.toNat
  | n + 1, b :: rest, seen =>
    let id := b.toNat
    match table id seen with
    | none => .bad id
    | some spec =>
      match rest with
      | [] => .bad id
      | lenByte :: vs =>
        if lenByte.toNat ≠ spec.len ∨ vs.length < lenByte.toNat then .bad id
        else
          let v := itemValue spec.signed (vs.take spec.len)
          if !spec.range.holds v then .bad id
          else if spec.most ≤ countOf seen id then .bad id
          else if spec.distinct && (valuesOf seen id).any (fun w => w % 256 == v % 256) then .bad id
          else checkItems table n (vs.drop spec.len) (seen ++ [{ id := id, val := v }])

/-- The row of an id in a list of rows. -/
def inTable (specs : List ItemSpec) (id : Nat) (_seen : List Item) : Option ItemSpec :=
  specs.find? fun sp => sp.id == id

/-- The items as they stand in the body, unchecked: what the range of a SUBSTITUTE value needs (log 12). -/
def rawItems : Nat → List Byte → List (Nat × List Byte)
  | _, [] => []
  | 0, _ :: _ => []
  | _ + 1, [_] => []
  | n + 1, b :: lenByte :: vs =>
    if vs.length < lenByte.toNat then []
    else (b.toNat, vs.take lenByte.toNat) :: rawItems n (vs.drop lenByte.toNat)

/-- The group a SUBSTITUTE or SUBSTITUTE END body names, wherever its group item stands. -/
def namedGroup (body : List Byte) : Option Group :=
  match (rawItems body.length body).find? (fun r => r.1 == 0x10) with
  | some (_, [b]) => if b.toNat ≤ 4 then some (groupOf b.toNat) else none
  | _ => none

/-- SUBSTITUTE's table: each value is judged against the channel its place names (R50, R178). -/
def substituteTable (g : Option Group) (id : Nat) (seen : List Item) : Option ItemSpec :=
  (inTable (requestItems 0x21) id seen).map fun sp =>
    if id == 0x11 then
      { sp with range := .between (-5000) (match g with | some g => rangeHigh g (countOf seen 0x11) | none => 8000) }
    else sp

/-- The later of two items in the body (R12). -/
def laterOf (items : List Item) (a b : Nat) : Nat :=
  if items.findIdx (fun i => i.id == a) < items.findIdx (fun i => i.id == b) then b else a

/-- A check that relates two items: when both stand and `bad` holds of them, the later of them is the offence (R12). -/
def relate (items : List Item) (a b : Nat) (bad : Int → Int → Bool) : Option Nat :=
  match valueOf items a, valueOf items b with
  | some x, some y => if bad x y then some (laterOf items a b) else none
  | _, _ => none

/-- The first offence of a list of checks. -/
def firstOf : List (Option Nat) → Option Nat
  | [] => none
  | some id :: _ => some id
  | none :: rest => firstOf rest

/-- The two relations of a group schedule, a warm-up not below the period and a stale limit below it (R39). The later of
the two items is named, as R12 and R75 say: the warm-up or the stale limit wherever the period stands ahead of it, and
the period where it stands behind, of which R39's words, read alone, would name the other (log 12, DEDUCED). -/
def scheduleRelations (items : List Item) (first : Nat) : List (Option Nat) :=
  [relate items first (first + 1) fun period warm => decide (period ≤ warm),
   relate items first (first + 2) fun period stale => decide (stale < period)]

/-- The relations of a profile's items, each naming the later of its two (R12, R39, R75, R124, R139, R153). -/
def profileRelations (p : ProfileKind) (items : List Item) : Option Nat :=
  match p with
  | .plant => firstOf
      ((List.range 4).map (fun i => relate items (0x36 + i) (0x3A + i) fun lo hi => decide (hi ≤ lo))
      ++ [relate items 0x55 0x56 fun a b => decide (b ≤ a)]
      ++ scheduleRelations items 0x5B ++ scheduleRelations items 0x5F)
  | .fog => firstOf
      ([relate items 0x12 0x11 fun fog alert => decide (alert ≤ fog),
        relate items 0x11 0x10 fun alert watch => decide (watch ≤ alert)]
      ++ scheduleRelations items 0x28 ++ scheduleRelations items 0x2C)
  | .heat => firstOf (scheduleRelations items 0x54)
  | .light => firstOf
      [relate items 0x28 0x29 fun retention list => decide (retention ≠ 0 ∧ retention < list),
       relate items 0x2D 0x2C fun pulse interval => decide (interval ≤ pulse)]

/-- The items a cell mode does not take (R60). -/
def modeForbids (mode : Nat) : List Nat :=
  match mode with
  | 0 => [0x12, 0x13, 0x14, 0x15, 0x16, 0x17, 0x18]
  | 1 => [0x16, 0x17, 0x18]
  | 2 | 3 | 4 => [0x13, 0x14, 0x15]
  | 5 => [0x13, 0x14, 0x15, 0x16]
  | _ => [0x12, 0x15, 0x18]

/-- The items a cell mode requires beside the cell index and the mode (R60). -/
def modeRequires (mode : Nat) : List Nat :=
  match mode with
  | 0 => []
  | 1 => [0x12, 0x13, 0x14, 0x15]
  | 2 | 3 | 4 => [0x12, 0x16, 0x17, 0x18]
  | 5 => [0x12, 0x17, 0x18]
  | _ => [0x13, 0x14, 0x16, 0x17]

/-- CELL SET's relations: items the mode does not take, CHAIN for C0, a TABLE slot naming a cell of equal or higher
index (R60, R62). -/
def cellRelations (items : List Item) : Option Nat :=
  match valueOf items 0x11 with
  | none => relate items 0x10 0x17 fun k clock => k == 0 && clock == 2
  | some m => firstOf
      ((modeForbids m.toNat).map (fun id => if countOf items id == 0 then none else some (laterOf items 0x11 id))
      ++ [relate items 0x10 0x17 fun k clock => k == 0 && clock == 2]
      ++ (if m == 1 then [0x12, 0x13, 0x14] else []).map fun id =>
          match valueOf items 0x10, valueOf items id with
          | some k, some src => if decide (18 + k ≤ src ∧ src ≤ 33) then some id else none
          | _, _ => none)

/-- GO's relation: NEXT together with list or cue number names the latest of them (R178). -/
def goRelations (items : List Item) : Option Nat :=
  if countOf items 0x12 == 0 || (countOf items 0x10 == 0 && countOf items 0x11 == 0) then none
  else ((items.filter fun i => i.id == 0x10 || i.id == 0x11 || i.id == 0x12).getLast?).map Item.id

/-- The relations of a request's items (R12, R58, R60, R128, R178). -/
def requestRelations (kind : Nat) (items : List Item) : Option Nat :=
  match kind with
  | 0x30 => cellRelations items
  | 0x32 => relate items 0x11 0x12 fun ch limit =>
      !inRange (groupOf (ch.toNat / 8)) (ch.toNat % 8) limit
  | 0x50 => relate items 0x11 0x12 fun mode _ => mode != 2
  | 0x63 => goRelations items
  | _ => none

/-- The required items of a request with the number of each, by rising id (R178 and the owning rules). -/
def requestRequires (kind : Nat) (items : List Item) : List (Nat × Nat) :=
  match kind with
  | 0x03 => [(0x10, 1)]
  | 0x11 => [(0x01, 1)]
  | 0x20 => [(0x10, 1), (0x11, 1), (0x12, 1)]
  | 0x21 => [(0x10, 1), (0x11, 8), (0x12, 1)]
  | 0x22 | 0x31 | 0x35 | 0x40 | 0x51 | 0x52 | 0x61 | 0x62 | 0x64 | 0x33 => [(0x10, 1)]
  | 0x30 => [(0x10, 1), (0x11, 1)] ++
      (match valueOf items 0x11 with | none => [] | some m => (modeRequires m.toNat).map fun id => (id, 1))
  | 0x32 => (0x10, 1) ::
      (if [0x11, 0x12, 0x13, 0x14].all (fun id => countOf items id == 0) then []
       else [(0x11, 1), (0x12, 1), (0x13, 1), (0x14, 1)])
  | 0x34 => [(0x10, 1), (0x11, 1), (0x12, 1), (0x13, 1)]
  | 0x41 => [(0x10, 1), (0x11, 1)]
  | 0x50 => [(0x10, 1), (0x11, 1)] ++ (if valueOf items 0x11 == some 2 then [(0x12, 1)] else [])
  | 0x60 => [(0x10, 1), (0x11, 1), (0x12, 1), (0x13, 1), (0x14, 1), (0x16, 1), (0x17, 1)]
  | 0x63 => if countOf items 0x12 == 0 then [(0x10, 1), (0x11, 1)] else []
  | 0x65 => if countOf items 0x11 == 0 && countOf items 0x12 == 0 then [(0x10, 1)] else []
  | _ => []

/-- The lowest required id that the items lack (R12). -/
def missingOf (needs : List (Nat × Nat)) (items : List Item) : Option Nat :=
  (needs.find? fun r => decide (countOf items r.1 < r.2)).map Prod.fst

/-- PROFILE LOAD's body: the profile kind item first, then the items of that profile; missing items are left to the
operating state controller (R12, R18). -/
def checkProfileLoad (body : List Byte) : Checked :=
  match body with
  | [] => .bad 0x01
  | first :: _ =>
    if first ≠ 0x01 then .bad 0x01
    else
      match checkItems (inTable [one 0x01 0 3]) 1 (body.take 3) [] with
      | .bad id => .bad id
      | .ok kindItems =>
        let p := profileOf (natOf kindItems 0x01)
        match checkItems (inTable (one 0x01 0 3 :: profileItems p)) body.length body [] with
        | .bad id => .bad id
        | .ok items =>
          match profileRelations p items with
          | some id => .bad id
          | none => .ok items

/-- The whole item check of a request's body (R12): one by one, then the relations, then the required items. -/
def checkBody (r : Request) : Checked :=
  if r.kind = 0x10 then checkProfileLoad r.body
  else
    let table := if r.kind = 0x21 then substituteTable (namedGroup r.body) else inTable (requestItems r.kind.toNat)
    match checkItems table r.body.length r.body [] with
    | .bad id => .bad id
    | .ok items =>
      match requestRelations r.kind.toNat items with
      | some id => .bad id
      | none =>
        match missingOf (requestRequires r.kind.toNat items) items with
        | some id => .bad id
        | none => .ok items

/-! ### Reply figures (R174) -/

/-- An unsigned figure in n bytes; one that does not fit is a free value (log 4). -/
def ub (n v : Nat) : List Byte := if v < 256 ^ n then le n v else le n (Config.unfitFigure n v)

/-- A signed figure in n bytes; one that does not fit is a free value (log 4). -/
def sb (n : Nat) (v : Int) : List Byte :=
  if -(256 ^ n : Int) ≤ 2 * v ∧ 2 * v < (256 ^ n : Int) then le n (v % (256 ^ n : Int)).toNat
  else le n (Config.unfitFigure n v)

/-- An unsigned figure or none, which is all ones (R174). -/
def optU (n : Nat) : Option Nat → List Byte
  | none => List.replicate n 0xFF
  | some v => ub n v

/-- A temperature or none, which is 0x8000 (R174). -/
def optTemp : Option Int → List Byte
  | none => [0x00, 0x80]
  | some v => sb 2 v

/-- A signed 2-byte figure that is no temperature, or none, which is 0xFFFF (R174, log 40). -/
def optDiff : Option Int → List Byte
  | none => [0xFF, 0xFF]
  | some v => sb 2 v

/-- A flag in one byte. -/
def flag (b : Bool) : List Byte := ub 1 (flagCode b)

/-- An item of a reply body: id, length, value (chapter 11). -/
def replyItem (r : Nat × List Byte) : List Byte := BitVec.ofNat 8 r.1 :: BitVec.ofNat 8 r.2.length :: r.2

/-- What a request is answered: an outcome and its items (R11). -/
structure Answer where
  outcome : ReplyOutcome
  items : List (Nat × List Byte)
  deriving DecidableEq, Repr

/-- An answer of an outcome alone. -/
def plain (o : ReplyOutcome) : Answer := { outcome := o, items := [] }

/-- DONE with items. -/
def doneWith (items : List (Nat × List Byte)) : Answer := { outcome := .done, items := items }

/-- BAD_FIELD naming an item (R11). -/
def badField (id : Nat) : Answer := { outcome := .badField, items := [(0x10, ub 1 id)] }

/-- The body of a reply: the outcome byte, then the items (R11). -/
def Answer.body (a : Answer) : List Byte := BitVec.ofNat 8 (outcomeCode a.outcome) :: a.items.flatMap replyItem

/-- The kind of the reply to a request: its kind plus 0x80, or 0xFE for a request of kind 0x7F or above (R10, R175). -/
def replyKind (kind : Byte) : Byte := if 0x7F ≤ kind.toNat then 0xFE else kind + 0x80

/-- The value bytes of a stored profile item under its row (R23). -/
def storedBytes (sp : ItemSpec) (v : Int) : List Byte := if sp.signed then sb sp.len v else ub sp.len v.toNat

end Sys2Proof.Machine
end

