-- ==== Sys2Proof/Machine/Profiles.lean ====
section
/-! DEFINITION. The four profiles' values read from their stored items by the tables of 11.4 (R75, R124, R139, R153,
R179), and the schedules they carry (R36, R39). -/

namespace Sys2Proof.Machine

open Sys2Proof

/-- A group schedule of four items (R179). -/
def scheduleOf (items : List Item) (first : Nat) : Schedule :=
  { period := natOf items first, warmUp := natOf items (first + 1), stale := natOf items (first + 2),
    mask := BitVec.ofNat 8 (natOf items (first + 3)) }

/-- The PLANT values (R75). -/
def plantOf (items : List Item) : PlantProfile :=
  { stages := Vector.ofFn fun n : Fin 6 =>
      { capacity := natOf items (0x10 + n), recovery := natOf items (0x16 + n), minRun := natOf items (0x1C + n),
        minOff := natOf items (0x22 + n), startLimit := natOf items (0x28 + n), stopTime := natOf items (0x2E + n) },
    reserve := natOf items 0x34, stopHysteresis := natOf items 0x35,
    modes := Vector.ofFn fun m : Fin 4 =>
      { bandLow := intOf items (0x36 + m), bandHigh := intOf items (0x3A + m), ceiling := intOf items (0x3E + m),
        baseLoad := natOf items (0x42 + m), factor := natOf items (0x46 + m) },
    flood := natOf items 0x4A, recoverLimit := natOf items 0x4B, softMargin := intOf items 0x4C,
    softDelay := natOf items 0x4D, softClear := natOf items 0x4E, gain := natOf items 0x4F,
    credit := natOf items 0x50, approach := intOf items 0x51, subfloorLimit := intOf items 0x52,
    subfloorGain := natOf items 0x53, subfloorMax := natOf items 0x54, derateStart := intOf items 0x55,
    derateEnd := intOf items 0x56, crowd := natOf items 0x57, night := natOf items 0x58, silence := natOf items 0x59,
    exitMargin := natOf items 0x5A, scheduleA := scheduleOf items 0x5B, scheduleC := scheduleOf items 0x5F }

/-- The FOG values (R139). -/
def fogOf (items : List Item) : FogProfile :=
  { watchAt := intOf items 0x10, alertAt := intOf items 0x11, fogAt := intOf items 0x12, hysteresis := intOf items 0x13,
    dwell := natOf items 0x14,
    rows := Vector.ofFn fun l : Fin 4 =>
      { desiccant := natOf items (0x15 + l), fan := natOf items (0x19 + l), raise := intOf items (0x1D + l),
        cap := natOf items (0x21 + l) },
    blindLimit := natOf items 0x25, starveLimit := natOf items 0x26, effectMin := intOf items 0x27,
    scheduleB := scheduleOf items 0x28, scheduleE := scheduleOf items 0x2C }

/-- The HEAT values (R124). -/
def heatOf (items : List Item) : HeatProfile :=
  { zones := Vector.ofFn fun z : Fin 8 =>
      { nearIce := natOf items (0x10 + z) == 1, max := natOf items (0x18 + z), gain := natOf items (0x20 + z),
        setback := intOf items (0x28 + z), preheat := natOf items (0x30 + z), spill := natOf items (0x38 + z),
        stageKw := natOf items (0x40 + z), stageCount := natOf items (0x48 + z) },
    stageCap := natOf items 0x50, minOn := natOf items 0x51, budgetCap := natOf items 0x52,
    meltMax := natOf items 0x53, scheduleD := scheduleOf items 0x54 }

/-- The LIGHT values (R153). -/
def lightOf (items : List Item) : LightProfile :=
  { classes := Vector.ofFn fun ch : Fin 24 => Fin.ofNat 4 (natOf items (0x10 + ch)),
    retention := natOf items 0x28, fallbackList := natOf items 0x29, fallbackCue := natOf items 0x2A,
    deferLimit := natOf items 0x2B, strobeInterval := natOf items 0x2C, strobePulse := natOf items 0x2D }

/-- The schedules a profile carries, by group (the table of R36). -/
def schedulesOf (p : ProfileKind) (items : List Item) : List (Group × Schedule) :=
  match p with
  | .plant => [(.a, scheduleOf items 0x5B), (.c, scheduleOf items 0x5F)]
  | .fog => [(.b, scheduleOf items 0x28), (.e, scheduleOf items 0x2C)]
  | .heat => [(.d, scheduleOf items 0x54)]
  | .light => []

/-- The profile that carries a group's schedule (R36). -/
def profileOfGroup : Group → ProfileKind
  | .a => .plant | .b => .fog | .c => .plant | .d => .heat | .e => .fog

/-- The PLANT values in effect; before any took effect the coordinator reads none of them (R77). -/
def plantValues (s : State) : PlantProfile := s.plt.profile.getD (plantOf [])

/-- The FOG values in effect; before any took effect the fog watch reads none of them (R141). -/
def fogValues (s : State) : FogProfile := s.fgw.profile.getD (fogOf [])

/-- The HEAT values in effect; before any took effect the electric stage cap is 0 and no zone is heated (R126, R134). -/
def heatValues (s : State) : HeatProfile := s.sph.profile.getD (heatOf [])

/-- The LIGHT values in effect; before any took effect event lighting starts nothing (R154). -/
def lightValues (s : State) : LightProfile := s.evl.profile.getD (lightOf [])

end Sys2Proof.Machine
end

