-- ==== Sys2Proof/Machine/Flags.lean ====
section
/-! DEFINITION. The levels the part forms from its state: the numbered sources of the condition array (R55), and the
lines it drives (R13, R35, R40, R88, R149, R157, R158). -/

namespace Sys2Proof.Machine

open Sys2Proof

/-! ### Sources (R55, R57) -/

/-- The level of a source that is no cell: 0 to 17 and 34 to 44 (R55). Cells, 18 to 33, are seen in one of two views (R61). -/
def sourceLevel (s : State) (n : Nat) : Bool :=
  if n = 0 then false
  else if n = 1 then true
  else if n < 10 then s.cnd.fi[Fin.ofNat 8 (n - 2)]
  else if n < 18 then s.cnd.thresholds[Fin.ofNat 8 (n - 10)].active
  else if n < 34 then false
  else
    match n with
    | 34 => s.fgw.level == .alert || s.fgw.level == .fog
    | 35 => s.fgw.level == .fog
    | 36 => s.plt.ice == .resurface
    | 37 => s.plt.ice == .practice || s.plt.ice == .game
    | 38 => s.plt.ice == .covered
    | 39 => s.plt.ice == .soft
    | 40 => s.ilt.overBudget
    | 41 => s.hat.heatShort
    | 42 => s.cnd.crowdSurge
    | 43 => s.ops.part == .fallback
    | _ => s.ops.part == .nightHold

/-! ### Lines -/

/-- ATTN: asserted while the notice queue holds a record (R13). -/
def attn (s : State) : Bool := !s.link.notices.isEmpty

/-- A probe group's power switch: on while WAKING or CALIBRATING (R40). -/
def powerSwitch (s : State) (g : Group) : Bool :=
  s.prb[groupIdx g].state == .waking || s.prb[groupIdx g].state == .calibrating

/-- The run line of a stage: on in STARTING and RUNNING (R88), parked off before RUN (R35). -/
def runLine (s : State) (n : Fin 6) : Bool :=
  running s && (s.plt.stages[n].state == .starting || s.plt.stages[n].state == .running)

/-- A supplementary stage line (R133, R35). -/
def heaterLine (s : State) (z : Fin 8) (n : Fin 3) : Bool := running s && s.sph.zones[z].heaters[n].on

/-- Fan line FAN1 to FAN3: stage n turns FAN1 to FANn on (R149). -/
def fanLine (s : State) (n : Fin 3) : Bool := decide (n.val < s.fgw.fan)

/-- The haze line E0 (R157). -/
def lineE0 (s : State) : Bool := running s && (s.evl.want0 && s.fgw.haze && !s.evl.hazeInhibit)

/-- The strobe line E1: on during a flash pulse (R158). -/
def lineE1 (s : State) : Bool := running s && s.evl.pulse.isSome

/-- The beam line E2 (R157). -/
def lineE2 (s : State) : Bool := running s && s.evl.want2

/-- The beam line E3 (R157). -/
def lineE3 (s : State) : Bool := running s && s.evl.want3

/-- The level a dimmer output holds as its duty, or none while the channel is released (R155). -/
def dimmerOutput (s : State) (ch : Fin 24) : Option Nat :=
  if s.evl.dimmers[ch].driven then some s.evl.dimmers[ch].applied else none

/-- The electric stage count: the stages on over all zones (R133). -/
def electricCount (s : State) : Nat :=
  sumOver 8 fun z => (places 3 fun n => s.sph.zones[z].heaters[n].on).length

/-- The latched level of a gate (R70). -/
def gateLevel (s : State) (g : Fin 14) : Bool := s.cnd.gates[g].level

end Sys2Proof.Machine
end

