-- ==== Sys2Proof/Machine/Cells.lean ====
section
/-! DEFINITION. The evaluation of the condition cells (R61 to R68) and what brings them up to date. -/

namespace Sys2Proof.Machine

open Sys2Proof

/-! ### One cell -/

/-- The edge to a level is one the cell selects (R60). -/
def edgeSelects (e : EdgeSel) (level : Bool) : Bool :=
  match e with
  | .rise => level
  | .fall => !level
  | .both => true

/-- A DELAY cell's clock event (R64): the cell, and whether it issues a terminal event. The count stands at 0 after a
completion (log 32). -/
def delayClock (count : Nat) (c : Cell) : Cell × Bool :=
  match c.phase with
  | .pending level =>
    if count ≤ c.n + 1 then ({ c with out := level, phase := .idle, n := 0 }, true) else ({ c with n := c.n + 1 }, false)
  | _ => (c, false)

/-- An edge of a DELAY cell's trigger to a level (R64). -/
def delayEdge (sel : EdgeSel) (level : Bool) (c : Cell) : Cell :=
  match c.phase with
  | .pending _ => { c with phase := .idle, n := 0 }
  | _ => if edgeSelects sel level then { c with phase := .pending level, n := 0 } else { c with out := level }

/-- A ONESHOT cell's clock event (R65), an EDGE cell's with a count of 1 (R67); the count stands at 0 after the pulse
(log 32). -/
def pulseClock (count : Nat) (c : Cell) : Cell × Bool :=
  match c.phase with
  | .pulse =>
    if count ≤ c.n + 1 then ({ c with out := false, phase := .idle, n := 0 }, true) else ({ c with n := c.n + 1 }, false)
  | _ => (c, false)

/-- An edge of a ONESHOT or EDGE cell's trigger (R65, R67). -/
def pulseEdge (sel : EdgeSel) (level : Bool) (c : Cell) : Cell :=
  if c.phase ≠ .pulse ∧ edgeSelects sel level = true then { c with out := true, phase := .pulse, n := 0 } else c

/-- A RATE cell's clock event (R66); the count stands at 0 after the window has closed (log 32). -/
def rateClock (count : Nat) (c : Cell) : Cell × Bool :=
  match c.phase with
  | .open =>
    if count ≤ c.n + 1 then ({ c with out := false, phase := .idle, n := 0 }, c.out) else ({ c with n := c.n + 1 }, false)
  | _ => (c, false)

/-- An edge of a RATE cell's trigger (R66). -/
def rateEdge (sel : EdgeSel) (level : Bool) (c : Cell) : Cell :=
  if edgeSelects sel level then { c with out := if c.phase == .open then true else c.out, phase := .open, n := 0 } else c

/-- A COUNT cell's clock event, with the levels of restart and pause it last saw (R68). -/
def countClock (count : Nat) (c : Cell) : Cell × Bool :=
  if c.seen1 then ({ c with out := false, n := 0 }, false)
  else if c.seen2 then ({ c with out := false }, false)
  else if count ≤ c.n + 1 then ({ c with out := true, n := 0 }, true)
  else ({ c with out := false, n := c.n + 1 }, false)

/-- The selector of a TABLE cell (R62). -/
def selector (l0 l1 l2 : Bool) : Nat := flagCode l0 + 2 * flagCode l1 + 4 * flagCode l2

/-- A trigger cell's evaluation: its clock event first, then the edge on slot 0 (R61). -/
def evalTrigger (clocked : Bool) (level : Bool) (clock : Cell → Cell × Bool) (edge : Cell → Cell) (c : Cell) :
    Cell × Bool :=
  let r := if clocked then clock c else (c, false)
  let c1 := if r.1.seen0 = level then r.1 else { edge r.1 with seen0 := level }
  (c1, r.2)

/-- One evaluation of a cell (R61): whether it takes a clock event, the levels on its slots in its views; answers the
cell and whether it issues a terminal event. -/
def evalCell (clocked l0 l1 l2 : Bool) (c : Cell) : Cell × Bool :=
  match c.config with
  | .none => (c, false)
  | .table _ _ _ outcomes =>
    ({ c with out := outcomes.getLsbD (selector l0 l1 l2), seen0 := l0, seen1 := l1, seen2 := l2 }, false)
  | .delay _ count _ sel => evalTrigger clocked l0 (delayClock count) (delayEdge sel l0) c
  | .oneshot _ count _ sel => evalTrigger clocked l0 (pulseClock count) (pulseEdge sel l0) c
  | .rate _ count _ sel => evalTrigger clocked l0 (rateClock count) (rateEdge sel l0) c
  | .edge _ _ sel => evalTrigger clocked l0 (pulseClock 1) (pulseEdge sel l0) c
  | .count _ _ count _ =>
    let r := if clocked then countClock count c else (c, false)
    ({ r.1 with n := if l1 && !r.1.seen1 then 0 else r.1.n, seen1 := l1, seen2 := l2 }, r.2)

/-- The slots a cell uses, by place (R60); an unused slot names FALSE. -/
def cellSlots : CellConfig → Fin 45 × Fin 45 × Fin 45
  | .none => (0, 0, 0)
  | .table a b c _ => (a, b, c)
  | .delay a _ _ _ => (a, 0, 0)
  | .oneshot a _ _ _ => (a, 0, 0)
  | .rate a _ _ _ => (a, 0, 0)
  | .edge a _ _ => (a, 0, 0)
  | .count b c _ _ => (0, b, c)

/-- A cell's clock, if its mode has one (R63). -/
def cellClock : CellConfig → Option CellClock
  | .none => none
  | .table .. => none
  | .delay _ _ k _ => some k
  | .oneshot _ _ k _ => some k
  | .rate _ _ k _ => some k
  | .edge _ k _ => some k
  | .count _ _ _ k => some k

/-! ### The array -/

/-- The level cell `k` sees on a source: a lower cell's current output, an equal or higher cell's tick view, any other
source's level (R61). -/
def viewLevel (s : State) (cells : Vector Cell 16) (k : Fin 16) (src : Fin 45) : Bool :=
  if 18 ≤ src.val ∧ src.val < 34 then
    let j : Fin 16 := Fin.ofNat 16 (src.val - 18)
    if j < k then cells[j].out else cells[j].tickView
  else sourceLevel s src.val

/-- One cell brought up to date in an event: `issued` says that the cell one below issued a terminal event in it. -/
def evalAt (s : State) (clocks : Fin 16 → Bool) (acc : Vector Cell 16 × Bool) (k : Fin 16) : Vector Cell 16 × Bool :=
  let c := acc.1[k]
  let slots := cellSlots c.config
  let clocked := clocks k || (acc.2 && cellClock c.config == some .chain)
  let r := evalCell clocked (viewLevel s acc.1 k slots.1) (viewLevel s acc.1 k slots.2.1)
    (viewLevel s acc.1 k slots.2.2) c
  (acc.1.set k.val r.1 k.isLt, r.2)

/-- The cells brought up to date in ascending order, each once; `clocks` says which take a clock event first (R61). An
evaluation of a cell that nothing touches leaves it as it stands. -/
def evalCells (s : State) (clocks : Fin 16 → Bool) : Vector Cell 16 :=
  ((List.finRange 16).foldl (evalAt s clocks) (s.cnd.cells, false)).1

/-- An event that has changed a source brings the cells up to date before it ends (R61). -/
def sync (s : State) : State := { s with cnd.cells := evalCells s fun _ => false }

/-- The clock event of this base tick for a cell: BASE, or SECOND when the divider returns to 0 (R56, R63). -/
def tickClocks (s : State) (wraps : Bool) (k : Fin 16) : Bool :=
  let clock := cellClock s.cnd.cells[k].config
  clock == some .base || (wraps && clock == some .second)

/-- The second divider returns to 0 at this base tick (R56). -/
def dividerWraps (s : State) : Bool := decide (99 ≤ s.cnd.divider)

end Sys2Proof.Machine
end

