-- ==== Sys2Proof/Machine/Dispatcher.lean ====
section
/-! DEFINITION. The request dispatcher: which row a request in the intake is, the screen of R8 and R9, and the one
operation by which every request row is taken, carried out and answered (R7). -/

namespace Sys2Proof.Machine

open Sys2Proof

/-- The row that a request is: its kind, and for STAGE LOCK, ZONE SET and GO the choice its body carries (log 19). A
kind the table of R175 does not list is UNKNOWN_KIND_REQUEST. -/
def requestRow (r : Request) : Instr :=
  let raw := rawItems r.body.length r.body
  let carries (id : Nat) (v : Byte) : Bool := raw.any fun x => x.1 == id && x.2 == [v]
  match r.kind.toNat with
  | 0x01 => .identify
  | 0x02 => .statusRead
  | 0x03 => .noticeFetch
  | 0x04 => .powerFlagClear
  | 0x05 => .restart
  | 0x06 => .resume
  | 0x10 => .profileLoad
  | 0x11 => .profileRead
  | 0x12 => .calibrate
  | 0x13 => .nightHoldEnter
  | 0x14 => .nightHoldLeave
  | 0x20 => .batchRead
  | 0x21 => .substitute
  | 0x22 => .substituteEnd
  | 0x30 => .cellSet
  | 0x31 => .cellRead
  | 0x32 => .thresholdSet
  | 0x33 => .gateBind
  | 0x34 => .counterSet
  | 0x35 => .occupancySet
  | 0x40 => .iceMode
  | 0x41 => if carries 0x11 1 then .stageLockUnlock else .stageLockLock
  | 0x42 => .plantRead
  | 0x43 => .loadTableRead
  | 0x50 => if carries 0x11 0 then .zoneSetOff else if carries 0x11 3 then .zoneSetSetback else .zoneSetOccupied
  | 0x51 => .zoneRead
  | 0x52 => .meltDemand
  | 0x53 => .heatTableRead
  | 0x58 => .fogRead
  | 0x60 => .cueStore
  | 0x61 => .cueRead
  | 0x62 => .listErase
  | 0x63 => if raw.any (fun x => x.1 == 0x12) then .goNext else .goCue
  | 0x64 => .release
  | 0x65 => .effectSet
  | 0x66 => .strobe
  | 0x67 => .playbackRead
  | _ => .unknownKindRequest

/-- The kinds that R9 marks RUN. -/
def needsRun (kind : Nat) : Bool :=
  [0x40, 0x41, 0x42, 0x43, 0x50, 0x51, 0x52, 0x53, 0x58, 0x63, 0x64, 0x65, 0x66, 0x67].contains kind

/-- The job to which R9 assigns a request that is not a read. -/
def requestJob (kind : Nat) (items : List Item) : Option ProfileKind :=
  if kind = 0x21 ∨ kind = 0x22 then some (profileOfGroup (groupOf (natOf items 0x10)))
  else if kind = 0x40 ∨ kind = 0x41 then some .plant
  else if kind = 0x50 ∨ kind = 0x52 then some .heat
  else if kind = 0x60 ∨ kind = 0x62 ∨ (0x63 ≤ kind ∧ kind ≤ 0x66) then some .light
  else none

/-- What the screen finds: a refusal, or the items to hand to the owner. -/
inductive Screened
  | refuse (a : Answer)
  | pass (items : List Item)
  deriving DecidableEq, Repr

/-- The screen: kind, items, part state, settling, in this order (R8). -/
def screen (s : State) (r : Request) : Screened :=
  if requestRow r = .unknownKindRequest then .refuse (plain .unknownKind)
  else
    match checkBody r with
    | .bad id => .refuse (badField id)
    | .ok items =>
      if needsRun r.kind.toNat && !running s then .refuse (plain .notConfigured)
      else if settlingJob s (requestJob r.kind.toNat items) then .refuse (plain .settling)
      else .pass items

/-- The dispatcher may take a request: it is free and the reply path holds fewer than 4 replies (R7). -/
def canTake (s : State) : Bool := s.link.dispatcher == .free && decide (s.link.replies.length < 4)

/-- The reply to a request joins the reply path (R7, R10, R11); the reply that stopped the dispatcher is RESTART's. -/
def answer (s : State) (r : Request) (a : Answer) : State :=
  s.pushReply { tag := r.tag, kind := replyKind r.kind, body := a.body, restart := s.link.dispatcher == .halted }

/-- A request row: the dispatcher takes the oldest request of the intake, when it may and that request is of this row,
screens it, and refuses it or hands it to its owner (R7, R8). The owner answers, or holds the dispatcher (no answer
yet). A row whose request does not stand at the head does not occur: nothing changes (log 2). -/
def takeRequest (row : Instr) (owner : Request → List Item → State → State × Option Answer) (s : State) :
    Host.Outcome State Fault Refusal :=
  match s.link.intake with
  | [] => .next s
  | r :: rest =>
    if canTake s && requestRow r == row then
      let s1 := { s with link.intake := rest }
      match screen s1 r with
      | .refuse a => .next (answer s1 r a)
      | .pass items =>
        match owner r items s1 with
        | (s2, some a) => .next (answer s2 r a)
        | (s2, none) => .next s2
    else .next s

/-- An owner that always answers at once. -/
def owned (f : List Item → State → State × Answer) (_r : Request) (items : List Item) (s : State) :
    State × Option Answer :=
  let r := f items s
  (r.1, some r.2)

/-- An owner that changes nothing: a read (R9). -/
def reads (f : List Item → State → List (Nat × List Byte)) (_r : Request) (items : List Item) (s : State) :
    State × Option Answer :=
  (s, some (doneWith (f items s)))

end Sys2Proof.Machine
end

