-- ==== Sys2Proof/Machine/HeatTable.lean ====
section
/-! DEFINITION. The heat allocation table (chapter 7): rows and postings, the allocation pass, valves, what it hands
back, and its rows of the table. -/

namespace Sys2Proof.Machine

open Sys2Proof

/-! ### Shares of a class (R116, R117) -/

/-- The rounding loss handed out 1 kW at a time in ascending row order over (grant, demand) pairs, skipping a row whose
grant equals its demand (R117 step 2). One round places it all. -/
def handOutLoss : Nat → List (Nat × Nat) → List Nat
  | _, [] => []
  | 0, (g, _) :: rest => g :: handOutLoss 0 rest
  | k + 1, (g, d) :: rest => if g = d then g :: handOutLoss (k + 1) rest else (g + 1) :: handOutLoss k rest

/-- The first grants: left-over times demand by class demand, whole part (R117 step 1). -/
def firstShares (left : Nat) (demands : List Nat) : List Nat := demands.map fun d => left * d / demands.sum

/-- The grants of a short class (R117). -/
def shareOut (left : Nat) (demands : List Nat) : List Nat :=
  let first := firstShares left demands
  handOutLoss (left - first.sum) (first.zip demands)

/-- The grants of a class from the left-over: in full when it is covered, shared when it is short (R116). -/
def classGrants (left : Nat) (demands : List Nat) : List Nat :=
  if demands.sum ≤ left then demands else shareOut left demands

/-- The rows of a class, in ascending row number. -/
def classRows (rows : Vector HeatRow 11) (c : Nat) : List (Fin 11) := places 11 fun r => rows[r].cls == c

/-- Grants written into their rows. -/
def setGrants (rows : Vector HeatRow 11) (grants : List (Fin 11 × Nat)) : Vector HeatRow 11 :=
  grants.foldl (fun rows g => upd rows g.1 fun row => { row with grant := g.2 }) rows

/-- One class served: the left-over after it, and the rows (R116). -/
def serveClass (acc : Nat × Vector HeatRow 11) (c : Nat) : Nat × Vector HeatRow 11 :=
  let members := classRows acc.2 c
  let grants := classGrants acc.1 (members.map fun r => acc.2[r].demand)
  (acc.1 - grants.sum, setGrants acc.2 (members.zip grants))

/-- The classes served in the order 0 to 4: the rejected heat and the granted rows (R116). -/
def serveClasses (supply : Nat) (rows : Vector HeatRow 11) : Nat × Vector HeatRow 11 :=
  [0, 1, 2, 3, 4].foldl serveClass (supply, rows)

/-! ### Results of a pass (R118 to R121) -/

/-- The state a row's demand and grant give (R118). -/
def rowStateOf (demand grant : Nat) : RowState :=
  if demand = 0 then .idle else if grant = demand then .satisfied else if grant = 0 then .starved else .partial_

/-- The position of a row's valve (R120). -/
def rowValve (row : HeatRow) : Nat := if row.max = 0 then 0 else row.grant * 100 / row.max

/-- A row's state and valve as the pass leaves them. -/
def finishRow (row : HeatRow) : HeatRow := { row with state := rowStateOf row.demand row.grant, valve := rowValve row }

/-- HEAT_SHORT: a zone row has a positive demand and is not SATISFIED (R118). -/
def heatShortOf (rows : Vector HeatRow 11) : Bool :=
  anyOf 11 fun r => decide (2 ≤ r.val ∧ r.val ≤ 9) && decide (0 < rows[r].demand) && rows[r].state != .satisfied

/-- The HEAT_SHORTFALL notices of the rows that enter STARVED at a pass, in ascending row order (R119). -/
def postShortfalls (before : Vector HeatRow 11) (s : State) : State :=
  (List.finRange 11).foldl (fun s r =>
    let row := s.hat.rows[r]
    if row.state = .starved ∧ before[r].state ≠ .starved then s.post .heatShortfall r.val row.demand row.cls else s) s

/-- The zone grants a pass hands back (R121): rows 2 to 9. -/
def zoneGrantsOf (rows : Vector HeatRow 11) : Vector (Nat × RowState) 8 :=
  Vector.ofFn fun z : Fin 8 => (rows[z.val + 2].grant, rows[z.val + 2].state)

/-- The allocation pass: complete within its event (R115 to R121). Its source edge follows by `sync` in the event. -/
def allocationPass (s : State) : State :=
  let before := s.hat.rows
  let served := serveClasses s.hat.supply s.hat.rows
  let rows := tabMap finishRow served.2
  let s := { s with
    hat.used := s.hat.supply, hat.rows := rows, hat.rejected := served.1,
    hat.rejectValve := if s.hat.supply = 0 then 100 else served.1 * 100 / s.hat.supply,
    hat.heatShort := heatShortOf rows }
  let s := postShortfalls before s
  { s with transit.zoneGrants := s.transit.zoneGrants ++ [zoneGrantsOf rows],
           transit.desiccants := s.transit.desiccants ++ [(rows[1].grant, rows[1].state)] }

/-- A pass, once the plant coordinator has posted a supply since the reset (R113, R115). -/
def passIfPosted (s : State) : State := if s.hat.posted then allocationPass s else s

/-! ### Postings (R112, R113) -/

/-- A row with a new posted demand: its demand is the smaller of that and its maximum (R112). -/
def HeatRow.setPosted (row : HeatRow) (v : Nat) : HeatRow := { row with posted := v, demand := min v row.max }

/-- A row with a new maximum (R112). -/
def HeatRow.setMax (row : HeatRow) (m : Nat) : HeatRow := { row with max := m, demand := min row.posted m }

/-- The row of a zone (R111). -/
def zoneRow (z : Fin 8) : Fin 11 := ⟨z.val + 2, by omega⟩

/-- The figures a posting carries replace those held (R113). -/
def Hat.takePosting (h : Hat) : HeatPosting → Hat
  | .plant supply subfloor =>
    let h := match supply with
      | none => h
      | some v => { h with supply := v, posted := true }
    match subfloor with
    | none => h
    | some v => { h with rows := upd h.rows 0 fun row => row.setPosted v }
  | .fogWatch demand cls => { h with rows := upd h.rows 1 fun row => { row.setPosted demand with cls := cls } }
  | .zones demands =>
    { h with rows := demands.foldl (fun rows d => upd rows (zoneRow d.1) fun row => row.setPosted d.2) h.rows }

/-- The table takes a posting and makes its pass (R113, R115). -/
def takeHeatPosting (s : State) (p : HeatPosting) : State := passIfPosted { s with hat := s.hat.takePosting p }

/-- The row maxima a settle end hands the table, and the pass of that event (R112, R113). -/
def takeMaxima (s : State) (maxima : List (Fin 11 × Nat)) : State :=
  passIfPosted { s with hat.rows := maxima.foldl (fun rows m => upd rows m.1 fun row => row.setMax m.2) s.hat.rows }

/-- The block that made a posting. -/
def heatPosterOf : HeatPosting → HeatPoster
  | .plant _ _ => .plant
  | .fogWatch _ _ => .fogWatch
  | .zones _ => .stands

/-- HEAT_TABLE_POSTING: the oldest posting of that block on its way reaches the table (R113). -/
def execHeatTablePosting (poster : HeatPoster) (s : State) : Host.Outcome State Fault Refusal :=
  match takeFirst (fun p => heatPosterOf p == poster) s.transit.heats with
  | none => .next s
  | some (p, rest) => .next (sync (takeHeatPosting { s with transit.heats := rest } p))

/-- MELT DEMAND: the figure becomes MELT's posted demand, a pass is made, and the reply is built after it (R122). -/
def ownMeltDemand (items : List Item) (s : State) : State × Answer :=
  let s := passIfPosted { s with hat.rows := upd s.hat.rows 10 fun row => row.setPosted (natOf items 0x10) }
  let s := sync s
  let row := s.hat.rows[10]
  (s, doneWith [(0x10, ub 2 row.posted), (0x11, ub 2 row.demand), (0x12, ub 2 row.grant ++ ub 1 (rowCode row.state)),
    (0x13, ub 2 s.hat.used)])

/-- MELT_DEMAND (R122). -/
def execMeltDemand (s : State) : Host.Outcome State Fault Refusal := takeRequest .meltDemand (owned ownMeltDemand) s

/-- HEAT TABLE READ's reply items (R123, log 11). A row's class takes 1 byte, as its number, for which R174 and R176 list
neither a width nor a code (log 44, DESIGN CHOICE). -/
def heatTableReadItems (_items : List Item) (s : State) : List (Nat × List Byte) :=
  [(0x10, ub 2 s.hat.supply ++ ub 2 s.hat.used)]
  ++ s.hat.rows.toList.map (fun row =>
      (0x11, ub 1 row.cls ++ ub 2 row.posted ++ ub 2 row.max ++ ub 2 row.demand ++ ub 2 row.grant
        ++ ub 1 (rowCode row.state) ++ ub 1 row.valve))
  ++ [(0x12, ub 2 s.hat.rejected ++ ub 1 s.hat.rejectValve), (0x13, flag s.hat.heatShort)]

/-- HEAT_TABLE_READ (R123). -/
def execHeatTableRead (s : State) : Host.Outcome State Fault Refusal :=
  takeRequest .heatTableRead (reads heatTableReadItems) s

end Sys2Proof.Machine
end

