-- ==== Sys2Proof/Machine/Link.lean ====
section
/-! DEFINITION. The message link: frame reception and link faults (R3, R4), the intake and the busy mark (R5, R6),
the transmitter (R10), the requests of LINK (R8, R14, R15, R16) and the resets (R33). -/

namespace Sys2Proof.Machine

open Sys2Proof

/-! ### Link faults -/

/-- A fault's count goes up to 255 and the last cause is set (R4). -/
def FaultRecord.add (f : FaultRecord) : LinkFault → FaultRecord
  | .stopBit => { f with stopBit := min 255 (f.stopBit + 1), last := some .stopBit }
  | .gap => { f with gap := min 255 (f.gap + 1), last := some .gap }
  | .length => { f with length := min 255 (f.length + 1), last := some .length }
  | .check => { f with check := min 255 (f.check + 1), last := some .check }

/-- The frame in reception, if any, is abandoned and the fault is recorded (R4). -/
def linkFault (s : State) (f : LinkFault) : State :=
  { s with link.rx := .hunt, link.gap := none, link.faults := s.link.faults.add f }

/-! ### Intake (R5, R6) -/

/-- The host-silence timer restarts with the full limit; it runs only in RUN under a limit that is not 0 (R30). -/
def restartSilence (s : State) : State :=
  if s.ops.part = .run then
    { s with ops.silence := if (plantValues s).silence = 0 then none else some (plantValues s).silence }
  else s

/-- A complete frame is offered to the intake: placed at its tail, or refused and handed to the busy mark (R5, R6). -/
def offer (s : State) (r : Request) : State :=
  if s.link.intake.length < 4 then restartSilence { s with link.intake := s.link.intake ++ [r] }
  else
    { s with link := { s.link with busyMark := some r.tag, overrun := s.link.overrun || s.link.busyMark.isSome }.startTx }

/-! ### Frame reception (R3) -/

/-- The ticks after a byte of a frame at which the GAP fault is taken: more than 2 have passed (R4, log 7). -/
def gapTicks : Nat := 3

/-- The receiver stands mid-frame in a state, and waits for the next byte (R4). -/
def midFrame (s : State) (rx : RxState) : State := { s with link.rx := rx, link.gap := some gapTicks }

/-- One byte arrives (R2, R3). -/
def takeByte (s : State) (b : LineByte) : State :=
  if !b.stopOk then linkFault s .stopBit
  else
    match s.link.rx with
    | .hunt => if b.value = 0xD5 then midFrame s (.length none) else s
    | .length none => midFrame s (.length (some b.value))
    | .length (some low) =>
      let n := low.toNat + 256 * b.value.toNat
      if 2 ≤ n ∧ n ≤ 512 then midFrame s (.body n []) else linkFault s .length
    | .body n got =>
      let got := got ++ [b.value]
      if n ≤ got.length then midFrame s (.check n got none) else midFrame s (.body n got)
    | .check n got none => midFrame s (.check n got (some b.value))
    | .check n got (some high) =>
      if crc (le 2 n ++ got) = high ++ b.value then
        let s := { s with link.rx := .hunt, link.gap := none }
        match got with
        | tag :: kind :: body => offer s { tag := tag, kind := kind, body := body }
        | _ => s
      else linkFault s .check

/-- FRAME_RECEIVE: the bytes arrive one after another (R3). -/
def execFrameReceive (bytes : List LineByte) (s : State) : Host.Outcome State Fault Refusal :=
  .next (bytes.foldl takeByte s)

/-- GAP_EXPIRY: the frame in reception is abandoned with a GAP fault (R4). -/
def execGapExpiry (s : State) : Host.Outcome State Fault Refusal :=
  if dueTimer s.link.gap then .next (linkFault s .gap) else .next s

/-! ### Resets (R33, R34) -/

/-- A reset of a kind: every block at its reset values, the SPEED strap sampled; a power-on reset sets the power flag and
empties the cue memory, the others keep both (R33). -/
def resetPart (s : State) (cause : ResetCause) (strap : Bool) : State :=
  if cause = .powerOn then .afterReset cause true strap [] s.pending
  else .afterReset cause s.ops.powerFlag strap s.evl.memory s.pending

/-- POWER_ON_RESET (R33). -/
def execPowerOnReset (strap : Bool) (s : State) : Host.Outcome State Fault Refusal := .next (resetPart s .powerOn strap)

/-- RESET_LINE (R33). -/
def execResetLine (strap : Bool) (s : State) : Host.Outcome State Fault Refusal := .next (resetPart s .resetLine strap)

/-- BROWNOUT (R33). -/
def execBrownout (strap : Bool) (s : State) : Host.Outcome State Fault Refusal := .next (resetPart s .brownout strap)

/-! ### The transmitter (R10) -/

/-- TRANSMIT_END: the frame has left TXD. After the RESTART reply the reset is made (R7, R33); otherwise the idle
transmitter starts the next frame (R6, R10). -/
def execTransmitEnd (strap : Bool) (s : State) : Host.Outcome State Fault Refusal :=
  match s.link.tx with
  | none => .next s
  | some frame =>
    if frame.restart then .next (resetPart s .restart strap)
    else .next { s with link := { s.link with tx := none }.startTx }

/-! ### Requests of LINK -/

/-- UNKNOWN_KIND_REQUEST: the screen refuses it before any owner sees it (R8). -/
def execUnknownKindRequest (s : State) : Host.Outcome State Fault Refusal :=
  takeRequest .unknownKindRequest (owned fun _ s => (s, plain .unknownKind)) s

/-- IDENTIFY's reply items (R15, R175). -/
def identifyItems (_items : List Item) (s : State) : List (Nat × List Byte) :=
  [(0x10, ub 2 Config.identityCode), (0x11, ub 1 Config.functionRevision), (0x12, flag s.link.fastRate),
   (0x13, ub 4 s.tick.toNat)]

/-- IDENTIFY (R15). -/
def execIdentify (s : State) : Host.Outcome State Fault Refusal := takeRequest .identify (reads identifyItems) s

/-- STATUS READ's reply items, in the order of R16's table (log 11). -/
def statusItems (s : State) : List (Nat × List Byte) :=
  let f := s.link.faults
  [(0x10, ub 1 (partCode s.ops.part)),
   (0x11, ub 1 (resetCode s.ops.resetCause) ++ flag s.ops.powerFlag)]
  ++ [s.ops.plant, s.ops.fog, s.ops.heat, s.ops.light].map (fun x => (0x12, ub 1 (statusCode x.status)))
  ++ [(0x13, ub 1 f.stopBit ++ ub 1 f.gap ++ ub 1 f.length ++ ub 1 f.check ++ ub 1 (faultCode f.last)),
      (0x14, flag s.link.noticesLost), (0x15, ub 1 s.link.notices.length), (0x16, ub 1 s.link.intake.length)]

/-- STATUS READ: the reply is formed first, then the fault record and the notices-lost flag are cleared if asked (R16). -/
def ownStatusRead (items : List Item) (s : State) : State × Answer :=
  let a := doneWith (statusItems s)
  if valueOf items 0x10 = some 1 then
    ({ s with link.faults := { stopBit := 0, gap := 0, length := 0, check := 0, last := none },
              link.noticesLost := false }, a)
  else (s, a)

/-- STATUS_READ (R16). -/
def execStatusRead (s : State) : Host.Outcome State Fault Refusal := takeRequest .statusRead (owned ownStatusRead) s

/-- A notice record of 10 bytes (R177); a value is signed where the posting rule gives a temperature. -/
def noticeBytes (n : Notice) : List Byte :=
  let v (x : Int) : List Byte := if n.kind = .softIce then sb 2 x else ub 2 x.toNat
  ub 1 (noticeCode n.kind) ++ ub 1 n.source ++ ub 4 n.stamp.toNat ++ v n.first ++ v n.second

/-- NOTICE FETCH: the oldest records leave the queue and are returned, with the number left (R14). -/
def ownNoticeFetch (items : List Item) (s : State) : State × Answer :=
  let taken := s.link.notices.take (natOf items 0x10)
  let left := s.link.notices.drop (natOf items 0x10)
  ({ s with link.notices := left },
   doneWith (taken.map (fun n => (0x10, noticeBytes n)) ++ [(0x11, ub 1 left.length)]))

/-- NOTICE_FETCH (R14). -/
def execNoticeFetch (s : State) : Host.Outcome State Fault Refusal := takeRequest .noticeFetch (owned ownNoticeFetch) s

/-- POWER FLAG CLEAR (R34). -/
def ownPowerFlagClear (_items : List Item) (s : State) : State × Answer :=
  ({ s with ops.powerFlag := false }, plain .done)

/-- POWER_FLAG_CLEAR (R34). -/
def execPowerFlagClear (s : State) : Host.Outcome State Fault Refusal :=
  takeRequest .powerFlagClear (owned ownPowerFlagClear) s

/-- RESTART: answered DONE; the dispatcher takes nothing more (R7, R33). -/
def ownRestart (_items : List Item) (s : State) : State × Answer :=
  ({ s with link.dispatcher := .halted }, plain .done)

/-- RESTART (R33). -/
def execRestart (s : State) : Host.Outcome State Fault Refusal := takeRequest .restart (owned ownRestart) s

end Sys2Proof.Machine
end

