-- ==== Sys2Proof/Machine/Fog.lean ====
section
/-! DEFINITION. The fog watch (chapter 9): spreads, levels, action rows and outputs, weakness and secondary measures, and
its rows of the table. -/

namespace Sys2Proof.Machine

open Sys2Proof

/-! ### Spreads (R142) -/

/-- The place of a layer's dew point channel, Bk+4. -/
def dewPlace (k : Fin 4) : Fin 8 := ⟨k.val + 4, by omega⟩

/-- The place of a layer's air channel, Bk. -/
def airPlace (k : Fin 4) : Fin 8 := ⟨k.val, by omega⟩

/-- A layer's spread, when both its records are usable (R142). -/
def layerSpread (s : State) (k : Fin 4) : Option Int :=
  match usableValue s .b (airPlace k), usableValue s .b (dewPlace k) with
  | some air, some dew => some (air - dew)
  | _, _ => none

/-- The smaller of two spreads, one of which may not exist. -/
def minSpread : Option Int → Option Int → Option Int
  | none, y => y
  | some x, none => some x
  | some x, some y => some (min x y)

/-- The spreads formed from the group B records (R142). -/
def formSpreads (s : State) : State :=
  { s with fgw.layers := Vector.ofFn (layerSpread s),
           fgw.spread := ((List.finRange 4).map (layerSpread s)).foldl minSpread none }

/-! ### Levels (R143 to R147) -/

/-- The threshold of a level other than CLEAR; CLEAR has none and is not asked (R143). -/
def fogThreshold (p : FogProfile) : FogLevel → Int
  | .clear | .watch => p.watchAt
  | .alert => p.alertAt
  | .fog => p.fogAt

/-- The level a spread calls for: the worst whose threshold it is at or below, else CLEAR (R143). -/
def calledLevel (p : FogProfile) (spread : Int) : FogLevel :=
  if spread ≤ p.fogAt then .fog else if spread ≤ p.alertAt then .alert else if spread ≤ p.watchAt then .watch else .clear

/-- The level is ALERT or FOG. -/
def foggy (l : FogLevel) : Bool := l == .alert || l == .fog

/-- The descend dwell condition (R144). -/
def dwellCondition (s : State) : Bool :=
  s.fgw.level != .clear && !s.fgw.fogSeen &&
  match s.fgw.spread with
  | none => false
  | some x => decide (fogThreshold (fogValues s) s.fgw.level + (fogValues s).hysteresis ≤ x)

/-- The descend dwell condition judged (R144). -/
def judgeDwell (s : State) : State :=
  { s with fgw.dwell := watchTimer (dwellCondition s) (fogValues s).dwell s.fgw.dwell }

/-- The starve condition (R151). -/
def starveCondition (s : State) : Bool :=
  foggy s.fgw.level && !s.fgw.secondary && (s.fgw.row != .satisfied || s.fgw.weak)

/-- Secondary measures end: DESICCANT SATISFIED and not weak, or the level below ALERT (R151). -/
def measuresEnd (s : State) : Bool := !foggy s.fgw.level || (s.fgw.row == .satisfied && !s.fgw.weak)

/-- The starve judgement: the switch-off of secondary measures first, then the condition (R151). -/
def judgeStarve (s : State) : State :=
  let s := if measuresEnd s then { s with fgw.secondary := false } else s
  { s with fgw.starve := watchTimer (starveCondition s) (fogValues s).starveLimit s.fgw.starve }

/-- A change of the fog level with its effects; the outputs are formed at the end of the event and the sources follow
by `sync` (R147, log 21). -/
def setLevel (s : State) (dest : FogLevel) : State :=
  let left := s.fgw.level
  let s := s.post .fogLevel 0 (fogRank dest).val (fogRank left).val
  judgeStarve (judgeDwell { s with fgw.level := dest, fgw.haze := !foggy dest })

/-- The worsening test (R143, R145): FOG_SEEN active makes the level FOG, a spread moves it to a worse one called
for. -/
def judgeWorse (s : State) : State :=
  let called :=
    if s.fgw.fogSeen then .fog
    else match s.fgw.spread with
      | none => s.fgw.level
      | some x => calledLevel (fogValues s) x
  if fogRank s.fgw.level < fogRank called then setLevel s called else s

/-! ### Outputs (R148, R149) -/

/-- The level whose action row is in force (R148). -/
def rowLevel (s : State) : FogLevel :=
  if s.fgw.doorOpen then fogOfRank (min 3 ((fogRank s.fgw.level).val + 1)) else s.fgw.level

/-- The action row in force (R148). -/
def rowInForce (s : State) : FogRow := (fogValues s).rows[fogRank (rowLevel s)]

/-- The desiccant class, by the actual level (R149). -/
def desiccantClass : FogLevel → Nat
  | .clear => 3
  | .watch => 2
  | .alert | .fog => 1

/-- The raise request (R149): 3.00 °C while secondary measures are on. -/
def raiseOutput (s : State) : Int := if s.fgw.secondary then 300 else (rowInForce s).raise

/-- Desiccant demand and class, posted together when either differs, or always (R149). -/
def postDesiccant (always : Bool) (s : State) : State :=
  let demand := (rowInForce s).desiccant
  let cls := desiccantClass s.fgw.level
  if always || demand != s.fgw.postedDemand || cls != s.fgw.postedClass then
    ({ s with fgw.postedDemand := demand, fgw.postedClass := cls }).postHeat (.fogWatch demand cls)
  else s

/-- The raise request, posted when it differs, or always (R149). -/
def postRaiseOutput (always : Bool) (s : State) : State :=
  if always || raiseOutput s != s.fgw.postedRaise then
    ({ s with fgw.postedRaise := raiseOutput s }).postRaise (raiseOutput s)
  else s

/-- The fog zone cap, posted when it differs, or always (R149). -/
def postZoneCap (always : Bool) (s : State) : State :=
  let cap := (rowInForce s).cap
  if always || cap != s.fgw.postedCap then ({ s with fgw.postedCap := cap }).postCap (.fogCap cap) else s

/-- The secondary measures flag, posted when it differs, or always (R149). -/
def postSecondary (always : Bool) (s : State) : State :=
  if always || s.fgw.secondary != s.fgw.postedSecondary then
    ({ s with fgw.postedSecondary := s.fgw.secondary }).postCap (.secondary s.fgw.secondary)
  else s

/-- The outputs formed and handed on: those that differ, or every one at the entry to RUN (R141, R149). Of the two that
go to spectator heating the cap is handed on first (log 41). -/
def formOutputs (always : Bool) (s : State) : State :=
  let s := { s with fgw.fan := (rowInForce s).fan }
  postSecondary always (postZoneCap always (postRaiseOutput always (postDesiccant always s)))

/-! ### Weakness (R150) -/

/-- The desiccant is weak (R150). -/
def weakFigure (s : State) : Bool :=
  decide (0 < s.fgw.grant) &&
  match usableValue s .e 2, usableValue s .e 3 with
  | some e2, some e3 => decide (e2 - (fogValues s).effectMin < e3)
  | _, _ => false

/-- The weak flag judged (R150). -/
def judgeWeak (s : State) : State := { s with fgw.weak := weakFigure s }

/-! ### Events from other blocks -/

/-- The blind timer after the spreads are formed: loaded when the spread becomes none, idle when one exists (R146). -/
def judgeBlind (hadNone : Bool) (s : State) : State :=
  { s with fgw.blind :=
      if s.fgw.spread.isSome then none
      else if hadNone then s.fgw.blind
      else some (fogValues s).blindLimit }

/-- A group B update: spreads, blindness and level judged (R142 to R146). -/
def groupBUpdate (s : State) : State := judgeDwell (judgeWorse (judgeBlind s.fgw.spread.isNone (formSpreads s)))

/-- A group E update: weakness is judged, and a change of the flag judges the starve condition (R150). -/
def groupEUpdate (s : State) : State :=
  let t := judgeWeak s
  if t.fgw.weak = s.fgw.weak then t else judgeStarve t

/-- What an event's changes of group B and E records bring in the fog watch, but for the outputs, which wait for the end
of the event (R43, R149); nothing before RUN (R141). -/
def fogJudgements (b e : Bool) (s : State) : State :=
  if running s then
    let s := if b then groupBUpdate s else s
    if e then groupEUpdate s else s
  else s

/-- The update of one event to the fog watch, of groups B and E as the event changed their records, its outputs formed
at the end (R43, R149); none is taken before RUN (R141). -/
def fogUpdate (b e : Bool) (s : State) : State :=
  if running s && (b || e) then formOutputs false (fogJudgements b e s) else s

/-- A change of FOG_SEEN's latched level (R141, R145); the outputs are formed at the end of the event. -/
def fogSeenGate (s : State) (level : Bool) : State :=
  let s := { s with fgw.fogSeen := level }
  if running s then judgeDwell (judgeWorse s) else s

/-- A change of DOOR_OPEN's latched level, which moves the row in force (R148); the outputs are formed at the end of the
event. -/
def doorOpenGate (s : State) (level : Bool) : State := { s with fgw.doorOpen := level }

/-- The outputs formed at the end of a base-tick event in which a gate of the fog watch changed (R149); none before RUN
(R141). -/
def fogGatesDone (changed : Bool) (s : State) : State :=
  if running s && changed then formOutputs false s else s

/-- The fog watch's part of a FOG settle end in RUN, NIGHT_HOLD or FALLBACK, the values being in effect (R140). -/
def fogSettled (s : State) : State := formOutputs false (judgeStarve (judgeWeak (judgeDwell (judgeWorse s))))

/-- The fog watch's part of the entry to RUN (R141). -/
def fogEnterRun (s : State) : State :=
  formOutputs true (judgeStarve (judgeWeak (judgeDwell (judgeWorse (judgeBlind false (formSpreads s))))))

/-! ### Rows of the table -/

/-- The level one step better (R144). -/
def betterLevel (l : FogLevel) : FogLevel := fogOfRank ((fogRank l).val - 1)

/-- DESCEND_DWELL_EXPIRY: the level improves by one step and the condition is judged for the new one (R144). -/
def execDescendDwellExpiry (s : State) : Host.Outcome State Fault Refusal :=
  if dueTimer s.fgw.dwell then
    .next (sync (formOutputs false (setLevel { s with fgw.dwell := none } (betterLevel s.fgw.level))))
  else .next s

/-- FOG_BLIND_EXPIRY: a level of CLEAR or WATCH is raised to ALERT, and FOG_BLIND is posted (R146). -/
def execFogBlindExpiry (s : State) : Host.Outcome State Fault Refusal :=
  if dueTimer s.fgw.blind then
    let before := s.fgw.level
    let s := { s with fgw.blind := none }
    let s := if foggy before then s else formOutputs false (setLevel s .alert)
    .next (sync (s.post .fogBlind 0 (fogRank s.fgw.level).val (fogRank before).val))
  else .next s

/-- The DESICCANT hand-back of a pass: grant and state kept, weakness and the starve condition judged (R150, R151). -/
def takeDesiccant (s : State) (grant : Nat) (row : RowState) : State :=
  formOutputs false (judgeStarve (judgeWeak { s with fgw.grant := grant, fgw.row := row }))

/-- DESICCANT_HANDBACK: the oldest hand-back on its way is taken (R121). -/
def execDesiccantHandback (s : State) : Host.Outcome State Fault Refusal :=
  match s.transit.desiccants with
  | [] => .next s
  | (grant, row) :: rest => .next (takeDesiccant { s with transit.desiccants := rest } grant row)

/-- STARVE_EXPIRY: secondary measures switch on (R151). -/
def execStarveExpiry (s : State) : Host.Outcome State Fault Refusal :=
  if dueTimer s.fgw.starve then
    .next (formOutputs false { s with fgw.starve := none, fgw.secondary := true })
  else .next s

/-- FOG READ's reply items (R152, log 11). A spread that is none is sent as 0xFFFF, being no temperature (R174,
log 40). The layer spreads, a set in the first bullet, take an id of their own behind it, and the later bullets the ids
from there (log 43, DESIGN CHOICE). DESICCANT's class takes 1 byte (log 44, DESIGN CHOICE). -/
def fogReadItems (_items : List Item) (s : State) : List (Nat × List Byte) :=
  let f := s.fgw
  let p := fogValues s
  let level (l : FogLevel) : List Byte := ub 1 (fogRank l).val
  [(0x10, level f.level ++ optDiff f.spread)]
  ++ f.layers.toList.map (fun x => (0x11, optDiff x))
  ++ [(0x12, sb 2 p.watchAt ++ sb 2 p.alertAt ++ sb 2 p.fogAt ++ sb 2 p.hysteresis),
      (0x13, flag f.fogSeen ++ flag f.doorOpen ++ level (rowLevel s)),
      (0x14, ub 2 (leftTimer f.dwell) ++ ub 2 (leftTimer f.blind) ++ ub 2 (leftTimer f.starve)),
      (0x15, flag f.secondary ++ flag f.weak),
      (0x16, ub 2 f.grant ++ ub 1 (rowCode f.row)),
      (0x17, ub 2 f.postedDemand ++ ub 1 f.postedClass ++ sb 2 f.postedRaise ++ ub 1 f.postedCap ++ flag f.haze),
      (0x18, ub 1 f.fan)]
  ++ (places 8 fun k => decide (k.val < 6)).map fun k =>
      (0x19, sb 2 (reading s .e k).value ++ ub 1 (qualityCode (reading s .e k).quality))

/-- FOG_READ (R152). -/
def execFogRead (s : State) : Host.Outcome State Fault Refusal := takeRequest .fogRead (reads fogReadItems) s

end Sys2Proof.Machine
end

