-- ==== Sys2Proof/Machine/LoadTable.lean ====
section
/-! DEFINITION. The ice load table (chapter 6): its events, the OVER_BUDGET flag, what it hands on, and the admission
test. -/

namespace Sys2Proof.Machine

open Sys2Proof

/-! ### Forming the table (R99 to R106) -/

/-- The figures an update carries are taken (R100). -/
def Ilt.takeUpdate (t : Ilt) (p : PlantUpdate) : Ilt :=
  { t with
    base := (p.base.map Int.ofNat).getD t.base,
    resurface := (p.resurface.map Int.ofNat).getD t.resurface,
    fogRaise := p.fogRaise.getD t.fogRaise,
    factor := p.factor.getD t.factor,
    capacity := p.capacity.getD t.capacity,
    crowdPer := if p.crowd.isSome then p.crowd else t.crowdPer,
    reserve := if p.reserve.isSome then p.reserve else t.reserve,
    exitMargin := if p.exitMargin.isSome then p.exitMargin else t.exitMargin,
    live := true }

/-- The posted figures are taken (R104 step 1). -/
def Ilt.takePosting (t : Ilt) : LoadPosting → Ilt
  | .plant p => t.takeUpdate p
  | .occupancy n => { t with occupancy := n }
  | .lighting n => { t with lightLoad := n }
  | .stands n => { t with posted := n }

/-- CROWD as formed from the occupancy and the load per person (R99, R101). -/
def Ilt.crowdFigure (t : Ilt) : Int := ((t.occupancy * t.crowdPer.getD 0 / 1000 : Nat) : Int)

/-- LIGHTING as formed from the lighting load and the lighting factor (R99, R102). -/
def Ilt.lightingFigure (t : Ilt) : Int := ((t.lightLoad * t.factor / 100 : Nat) : Int)

/-- The entries, raw sum, total and admission capacity formed (R103, R104 steps 2 and 3, R105, R106). -/
def Ilt.form (t : Ilt) : Ilt :=
  let t := { t with crowd := t.crowdFigure, lighting := t.lightingFigure, stands := (t.posted : Int) }
  let raw := t.base + t.crowd + t.lighting + t.stands + t.resurface + t.fogRaise
  { t with rawSum := raw, total := max raw 0, admission := ((t.capacity - t.reserve.getD 0 : Nat) : Int) }

/-- The exit mark: the admission capacity minus the exit margin (R107). -/
def Ilt.exitMark (t : Ilt) : Int := t.admission - t.exitMargin.getD 0

/-- The flag, the exit dwell and the clear hold judged at a posting (R107). -/
def Ilt.judge (t : Ilt) : Ilt :=
  if t.overBudget then { t with dwell := watchTimer (decide (t.total ≤ t.exitMark)) 100 t.dwell }
  else if t.hold.isNone && decide (t.admission < t.total) then { t with overBudget := true }
  else t

/-! ### Table events (R104, R107, R108) -/

/-- A change of the flag: the notice, and the flag's new level to spectator heating; its source follows by `sync`
(R107, R108). -/
def overBudgetChanged (s : State) : State :=
  (s.post .overBudget 0 s.ilt.total s.ilt.admission).postCap (.overBudget s.ilt.overBudget)

/-- The table takes a posting (R104). Before the update at the entry to RUN it stores the figures and does no more. -/
def takeLoadPosting (s : State) (p : LoadPosting) : State :=
  let t := s.ilt.takePosting p
  if t.live then
    let t := t.form.judge
    let before := s.ilt.overBudget
    let s := { s with ilt := t, transit.tableUpdates := s.transit.tableUpdates + 1,
                      transit.tableChanges := s.transit.tableChanges + 1 }
    if t.overBudget = before then s else sync (overBudgetChanged s)
  else { s with ilt := t }

/-- The block that made a posting. -/
def loadPosterOf : LoadPosting → LoadPoster
  | .plant _ => .plant
  | .occupancy _ => .conditionArray
  | .lighting _ => .lighting
  | .stands _ => .stands

/-- LOAD_TABLE_POSTING: the oldest posting of that block on its way reaches the table (R104). -/
def execLoadTablePosting (poster : LoadPoster) (s : State) : Host.Outcome State Fault Refusal :=
  match takeFirst (fun p => loadPosterOf p == poster) s.transit.loads with
  | none => .next s
  | some (p, rest) => .next (takeLoadPosting { s with transit.loads := rest } p)

/-- EXIT_DWELL_EXPIRY: the flag is cleared and the clear hold loaded with 1 tick (R107). -/
def execExitDwellExpiry (s : State) : Host.Outcome State Fault Refusal :=
  if dueTimer s.ilt.dwell then
    .next (sync (overBudgetChanged { s with ilt.dwell := none, ilt.overBudget := false, ilt.hold := some 1 }))
  else .next s

/-- CLEAR_HOLD_EXPIRY: the set test is made against the total and capacity as they stand (R107). -/
def execClearHoldExpiry (s : State) : Host.Outcome State Fault Refusal :=
  if dueTimer s.ilt.hold then
    let s := { s with ilt.hold := none }
    if s.ilt.admission < s.ilt.total then .next (sync (overBudgetChanged { s with ilt.overBudget := true }))
    else .next s
  else .next s

/-! ### The admission test (R109) -/

/-- The table's answer to the test: L, the projected total, the admission capacity and the verdict. -/
structure Verdict where
  load : Nat
  projected : Int
  capacity : Int
  admitted : Bool
  deriving DecidableEq, Repr

/-- The admission test for a radiant load (R109): it changes nothing. -/
def Ilt.test (t : Ilt) (radiant : Nat) : Verdict :=
  let load := radiant * t.factor / 100
  let projected := max (t.rawSum - t.lighting + max t.lighting (load : Int)) 0
  { load := load, projected := projected, capacity := t.admission, admitted := decide (projected ≤ t.admission) }

/-! ### LOAD TABLE READ (R110) -/

/-- LOAD TABLE READ's reply items, one item for each of the six entries (R110, R174, log 11); the crowd
load per person takes the 2 bytes of its profile item (log 44). -/
def loadTableReadItems (_items : List Item) (s : State) : List (Nat × List Byte) :=
  let t := s.ilt
  [t.base, t.crowd, t.lighting, t.stands, t.resurface, t.fogRaise].map (fun x => (0x10, sb 2 x))
  ++ [(0x11, ub 2 t.lightLoad ++ ub 1 t.factor),
      (0x12, ub 2 t.occupancy ++ optU 2 t.crowdPer),
      (0x13, sb 4 t.rawSum ++ ub 2 t.total.toNat),
      (0x14, ub 2 t.capacity ++ optU 2 t.reserve ++ ub 2 t.admission.toNat),
      (0x15, sb 2 (t.admission - t.rawSum + t.lighting)),
      (0x16, flag t.overBudget ++ optU 2 t.exitMargin ++ sb 2 t.exitMark),
      (0x17, ub 2 (leftTimer t.dwell)),
      (0x18, flag t.hold.isSome)]

/-- LOAD_TABLE_READ (R110). -/
def execLoadTableRead (s : State) : Host.Outcome State Fault Refusal :=
  takeRequest .loadTableRead (reads loadTableReadItems) s

end Sys2Proof.Machine
end

