-- ==== Sys2Proof/Machine/Lighting.lean ====
section
/-! DEFINITION. Event lighting (chapter 10): the cue memory, channels and fades, effect lines and the strobe, playback,
admission, deferral and release, and its rows of the table. -/

namespace Sys2Proof.Machine

open Sys2Proof

/-! ### The cue memory (R159 to R161) -/

/-- The number of cue slots. -/
def cueSlots : Nat := 256

/-- The most cues one list holds. -/
def listLimit : Nat := 64

/-- The record of a cue, if its list holds it. -/
def findCue (memory : List CueRecord) (list number : Nat) : Option CueRecord :=
  memory.find? fun c => c.list == list && c.number == number

/-- The records of a list, in cue number order. -/
def listCues (memory : List CueRecord) (list : Nat) : List CueRecord := memory.filter fun c => c.list == list

/-- One record comes before another: by list, then by cue number (R159). -/
def cueBefore (a b : CueRecord) : Bool := decide (a.list < b.list ∨ (a.list = b.list ∧ a.number < b.number))

/-- A record placed in the memory: in its order, over the record of the same list and number if there is one (R160). -/
def placeCue (c : CueRecord) : List CueRecord → List CueRecord
  | [] => [c]
  | d :: rest =>
    if cueBefore c d then c :: d :: rest
    else if cueBefore d c then d :: placeCue c rest
    else c :: rest

/-- The free slots of the memory. -/
def freeSlots (memory : List CueRecord) : Nat := cueSlots - memory.length

/-- The effect item of a CUE STORE. -/
def effectItem (items : List Item) (id : Nat) : Option Bool := (valueOf items id).map fun v => v == 1

/-- A channel entry of a CUE STORE: channel then level (R178). -/
def cueEntry (v : Int) : Fin 24 × Nat := (Fin.ofNat 24 (v % 256).toNat, (v / 256).toNat)

/-- The record a CUE STORE carries (R159, R160, R178). -/
def cueOf (items : List Item) : CueRecord :=
  { list := natOf items 0x10, number := natOf items 0x11, entries := (valuesOf items 0x12).map cueEntry,
    fade := natOf items 0x13, post := natOf items 0x14, follow := (valueOf items 0x15).map Int.toNat,
    load := natOf items 0x16, policy := policyOf (natOf items 0x17), e0 := effectItem items 0x18,
    e2 := effectItem items 0x19, e3 := effectItem items 0x1A }

/-- The store replaces a cue of the same number (R160). -/
def replaces (memory : List CueRecord) (c : CueRecord) : Bool := (findCue memory c.list c.number).isSome

/-- The store is refused for want of a slot or of a place in its list (R160). -/
def noRoomFor (memory : List CueRecord) (c : CueRecord) : Bool :=
  !replaces memory c && (decide (cueSlots ≤ memory.length) || decide (listLimit ≤ (listCues memory c.list).length))

/-! ### Channels and fades (R155, R156) -/

/-- The working level of a fade after its elapsed ticks: the whole part toward zero (R156). -/
def fadeLevel (f : Fade) : Nat :=
  (((f.start : Nat) : Int) + (((f.goal : Int) - (f.start : Int)) * (f.elapsed : Int)).tdiv (f.duration : Int)).toNat

/-- A fade begun to a level over a duration, from the working level as it stands; at once when 0 (R156). -/
def Dimmer.begin (d : Dimmer) (goal duration : Nat) : Dimmer :=
  if duration = 0 then { d with driven := true, working := goal, fade := none }
  else { d with driven := true, fade := some { start := d.working, goal := goal, elapsed := 0, duration := duration } }

/-- The fade has reached its duration (R156). -/
def Dimmer.fadeDone (d : Dimmer) : Bool :=
  match d.fade with
  | none => false
  | some f => decide (f.duration ≤ f.elapsed)

/-- The fade removed if it has reached its duration, the working level at its to-level (R156). -/
def Dimmer.finish (d : Dimmer) : Dimmer :=
  match d.fade with
  | none => d
  | some f => if f.duration ≤ f.elapsed then { d with working := f.goal, fade := none } else d

/-! ### Lighting load and dropped cues (R168, R169, R170) -/

/-- The lighting load becomes a figure, posted to the ice load table if that changes it (R102, R169 to R171). -/
def setLightLoad (s : State) (n : Nat) : State :=
  if n = s.evl.lightLoad then s else ({ s with evl.lightLoad := n }).postLoad (.lighting n)

/-- A cue is dropped with a cause (R168). -/
def dropCue (s : State) (list number : Nat) (cause : DropCause) : State :=
  s.post .cueDropped list number (dropCode cause)

/-- The deferred cue, if any, leaves the slot with a cause (R168). -/
def dropDeferred (s : State) (cause : DropCause) : State :=
  match s.evl.deferred with
  | none => s
  | some d => dropCue { s with evl.deferred := none } d.list d.number cause

/-! ### Cue start and fade end (R169, R170) -/

/-- The channels after a cue start: each named one begins its fade (R169 step 3). -/
def cueChannels (dimmers : Vector Dimmer 24) (c : CueRecord) (f : Nat) : Vector Dimmer 24 :=
  c.entries.foldl (fun dimmers e => upd dimmers e.1 fun d => d.begin (e.2 * f / 1000) c.fade) dimmers

/-- The fade end of the most-recent cue: its fades complete, its admitted load, WAITING, and the follow; answers
whether a follow of 0 expires in this event (R170). -/
def fadeEnded (s : State) : State × Bool :=
  let s := { s with
    evl.fadeEnd := none, evl.play := .waiting, evl.dimmers := tabMap Dimmer.finish s.evl.dimmers }
  match s.evl.recent with
  | none => (s, false)
  | some r =>
    let s := setLightLoad s r.load
    match r.follow with
    | none => (s, false)
    | some follow =>
      if s.evl.position.isNone then (s, false)
      else if follow = 0 then (s, true)
      else ({ s with evl.follow := some follow }, false)

/-- The deferred cue is another cue than this one. -/
def deferredOther (s : State) (c : CueRecord) : Bool :=
  match s.evl.deferred with
  | none => false
  | some d => !(d.list == c.list && d.number == c.number)

/-- A cue start of a record with a fraction and an admitted load (R169); answers as `fadeEnded`. -/
def startCue (s : State) (c : CueRecord) (f load : Nat) : State × Bool :=
  let s := if deferredOther s c then dropDeferred s .displaced else s
  let s := { s with
    evl.fadeEnd := none, evl.follow := none, evl.releaseTimer := none,
    evl.dimmers := cueChannels s.evl.dimmers c f,
    evl.want0 := c.e0.getD s.evl.want0, evl.want2 := c.e2.getD s.evl.want2, evl.want3 := c.e3.getD s.evl.want3 }
  let s := setLightLoad s (max s.evl.lightLoad load)
  let recent : RecentCue := { list := c.list, number := c.number, load := load, follow := c.follow }
  let s := { s with
    evl.recent := some recent, evl.position := some (c.list, c.number), evl.play := .fading }
  if c.fade = 0 then fadeEnded s else ({ s with evl.fadeEnd := some c.fade }, false)

/-! ### Admission (R166 to R168) -/

/-- The scaled radiant load at a fraction, rounded up (R167). -/
def scaledLoad (radiant f : Nat) : Nat := ceilDiv (radiant * f) 1000

/-- The largest fraction at or below a bound whose scaled load the test admits, 0 when none does (R167). -/
def bestFraction (t : Ilt) (radiant : Nat) : Nat → Nat
  | 0 => 0
  | f + 1 => if (t.test (scaledLoad radiant (f + 1))).admitted then f + 1 else bestFraction t radiant f

/-- A cue enters the deferred slot, displacing the one there, whose CUE_DROPPED comes first (R168, log 39). -/
def deferCue (s : State) (c : CueRecord) : State :=
  let s := dropDeferred s .displaced
  let slot : DeferredCue :=
    { list := c.list, number := c.number, left := (lightValues s).deferLimit, spent := 0 }
  { s with evl.deferred := some slot }

/-- What admission answers a GO: the result code, the fraction of a trim, the table's answer; no result when
deferred. -/
structure Admission where
  result : Option Nat
  fraction : Option Nat
  verdict : Verdict
  deriving DecidableEq, Repr

/-- Admission of a record (R166): the state, whether a follow of 0 expires in this event, and the answer. `quiet`: a
deferral from GO with post 0 posts no notice. CUE_TRIMMED follows the start's effects (log 39). -/
def admitCue (s : State) (c : CueRecord) (quiet : Bool) : (State × Bool) × Admission :=
  let v := s.ilt.test c.load
  if v.admitted then (startCue s c 1000 c.load, { result := some 0, fraction := none, verdict := v })
  else
    match c.policy with
    | .force => (startCue s c 1000 c.load, { result := some 1, fraction := none, verdict := v })
    | .trim =>
      let f := bestFraction s.ilt c.load 1000
      let load := scaledLoad c.load f
      let r := startCue s c f load
      ((r.1.post .cueTrimmed c.list c.number f, r.2),
       { result := some 2, fraction := some f, verdict := s.ilt.test load })
    | .defer =>
      let t := deferCue s c
      ((if quiet then t else t.post .cueDeferred c.list c.number c.load, false),
       { result := none, fraction := none, verdict := v })

/-! ### GO NEXT and the posted queue (R164, R165, R170) -/

/-- The cue GO NEXT names: the lowest-numbered of the position's list above the position (R164). -/
def nextCue (s : State) : Option CueRecord :=
  match s.evl.position with
  | none => none
  | some (list, number) => s.evl.memory.find? fun c => c.list == list && decide (number < c.number)

/-- An entry placed after every entry whose due tick is at or before its own (R164). -/
def enqueue (e : PostedCue) : List PostedCue → List PostedCue
  | [] => [e]
  | x :: xs => if e.left < x.left then e :: x :: xs else x :: enqueue e xs

/-- The posted queue's capacity. -/
def postedCapacity : Nat := 4

/-- A cue joins the posted queue, due after its post (R164). -/
def postCue (s : State) (c : CueRecord) (post : Nat) : State :=
  { s with evl.posted := enqueue { list := c.list, number := c.number, left := post } s.evl.posted }

/-- The follow's internal GO NEXT (R170); answers whether a follow of 0 expires in this event. -/
def followNext (s : State) : State × Bool :=
  match nextCue s with
  | none => (s, false)
  | some c =>
    if c.post = 0 then (admitCue s c false).1
    else if postedCapacity ≤ s.evl.posted.length then (dropCue s c.list c.number .noSpace, false)
    else (postCue s c c.post, false)

/-- The follows of 0 ticks that expire in the same event, one after another: each names a higher number of one list of
at most 64 cues (R170, log 30). -/
def playOn : Nat → State × Bool → State
  | 0, r => r.1
  | k + 1, r => if r.2 then playOn k (followNext r.1) else r.1

/-- An event that may have started a cue, carried to its end. -/
def settlePlay (r : State × Bool) : State := playOn 65 r

/-- The due entries leave the queue from the head, each admitted with the record as it stands (R165). Each sees what
the one before did in event lighting; the table it asks is the one of before the event, which has not yet taken a
lighting load posted in it (log 42). -/
def playDue : Nat → State → State
  | 0, s => s
  | k + 1, s =>
    match s.evl.posted with
    | [] => s
    | e :: rest =>
      if e.left = 0 then
        let s := { s with evl.posted := rest }
        match findCue s.evl.memory e.list e.number with
        | none => playDue k s
        | some c => playDue k (settlePlay (admitCue s c false).1)
      else s

/-! ### Release, night entry, fallback, settle end (R171, R172, R154, R27) -/

/-- The release end (R171). -/
def releaseEnd (s : State) : State :=
  setLightLoad { s with evl.releaseTimer := none, evl.play := .idle, evl.position := none } 0

/-- The posted entries dropped in queue order with a cause. -/
def dropPosted (s : State) (entries : List PostedCue) (cause : DropCause) : State :=
  entries.foldl (fun s e => dropCue s e.list e.number cause) s

/-- RELEASE over a time (R171). -/
def releaseAll (s : State) (time : Nat) : State :=
  let s := dropDeferred (dropPosted { s with evl.posted := [] } s.evl.posted .released) .released
  let s := { s with
    evl.fadeEnd := none, evl.follow := none, evl.play := .releasing, evl.releaseTimer := some time,
    evl.dimmers := tabMap (fun d => if d.driven then d.begin 0 time else d) s.evl.dimmers }
  if time = 0 then releaseEnd s else s

/-- The lists of a memory that hold a cue. -/
def listsHeld (memory : List CueRecord) : List Nat :=
  (List.range 17).filter fun l => !(listCues memory l).isEmpty

/-- The night purge: every list above the retention limit is erased and RETENTION_PURGE posted (R27). -/
def retentionPurge (s : State) : State :=
  let limit := (lightValues s).retention
  let gone := s.evl.memory.filter fun c => decide (limit < c.list)
  let s := { s with evl.memory := s.evl.memory.filter fun c => decide (c.list ≤ limit) }
  s.post .retentionPurge 0 (listsHeld gone).length gone.length

/-- The rest of night entry in event lighting: levels 0, fades removed, wanted states off, the pulse ended, a position
in a purged list none (R27, R172). -/
def nightLightingOff (s : State) : State :=
  { s with
    evl.dimmers := tabMap (fun d => { d with working := 0, applied := 0, fade := none }) s.evl.dimmers,
    evl.want0 := false, evl.want2 := false, evl.want3 := false, evl.pulse := none,
    evl.position := s.evl.position.filter fun p => decide (p.1 ≤ (lightValues s).retention) }

/-- The fallback cue started without a test, if it is stored, a deferred cue dropped whichever it is; answers whether it
was started (R31, R172, log 26). -/
def fallbackStart (s : State) : State × Bool :=
  match findCue s.evl.memory (lightValues s).fallbackList (lightValues s).fallbackCue with
  | none => (s, false)
  | some c => (settlePlay (startCue (dropDeferred s .displaced) c 1000 c.load), true)

/-- The fallback cue asked for, and the FALLBACK notice with its result (R31). -/
def askFallback (s : State) : State :=
  let p := lightValues s
  let r := fallbackStart s
  r.1.post .fallback p.fallbackList (outcomeCode (if r.2 then .done else .notFound)) p.fallbackCue

/-- The LIGHT values take effect; a released channel, which has no boundary, takes its class at once (R154, log 16). -/
def lightTakeValues (s : State) (p : LightProfile) : State :=
  { s with
    evl.profile := some p,
    evl.dimmers := Vector.ofFn fun ch : Fin 24 =>
      let d := s.evl.dimmers[ch]
      if d.driven then d else { d with cls := some p.classes[ch] } }

/-! ### Gates (R154, R157, R158) -/

/-- A change of HAZE_INHIBIT's latched level. -/
def hazeGate (s : State) (level : Bool) : State := { s with evl.hazeInhibit := level }

/-- A change of STROBE_INHIBIT's latched level: a rise ends a pulse (R158). -/
def strobeGate (s : State) (level : Bool) : State :=
  { s with evl.strobeInhibit := level, evl.pulse := if level then none else s.evl.pulse }

/-! ### Rows: cue memory -/

/-- CUE STORE: refused NO_SPACE, or the dispatcher is held for the write (R160). -/
def ownCueStore (r : Request) (items : List Item) (s : State) : State × Option Answer :=
  let c := cueOf items
  if noRoomFor s.evl.memory c then (s, some (plain .noSpace))
  else ({ s with link.dispatcher := .storing r.tag c (1 + ceilDiv c.entries.length 8) }, none)

/-- CUE_STORE (R160). -/
def execCueStore (s : State) : Host.Outcome State Fault Refusal := takeRequest .cueStore ownCueStore s

/-- The reply of a completed cue memory write; the dispatcher is free again (R7, R160, R161). -/
def writeDone (s : State) (tag kind : Byte) (items : List (Nat × List Byte)) : State :=
  ({ s with link.dispatcher := .free }).pushReply
    { tag := tag, kind := replyKind kind, body := (doneWith items).body, restart := false }

/-- The completion of a CUE STORE (R160); its reply codes a new cue 0 and a replaced one 1 (log 35). -/
def completeStore (s : State) (tag : Byte) (c : CueRecord) : State :=
  let replaced := replaces s.evl.memory c
  let memory := placeCue c s.evl.memory
  writeDone { s with evl.memory := memory } tag 0x60
    [(0x10, flag replaced), (0x11, ub 1 (listCues memory c.list).length), (0x12, ub 1 (freeSlots memory))]

/-- CUE_STORE_COMPLETE: the write's time has passed (R160). -/
def execCueStoreComplete (s : State) : Host.Outcome State Fault Refusal :=
  match s.link.dispatcher with
  | .storing tag c 0 => .next (completeStore s tag c)
  | _ => .next s

/-- LIST ERASE: the dispatcher is held for 1 tick per cue of the list, and 1 for an empty one (R161). -/
def ownListErase (r : Request) (items : List Item) (s : State) : State × Option Answer :=
  let list := natOf items 0x10
  ({ s with link.dispatcher := .erasing r.tag list (max 1 (listCues s.evl.memory list).length) }, none)

/-- LIST_ERASE (R161). -/
def execListErase (s : State) : Host.Outcome State Fault Refusal := takeRequest .listErase ownListErase s

/-- The deferred cue is of a list. -/
def deferredIn (s : State) (list : Nat) : Bool :=
  match s.evl.deferred with
  | none => false
  | some d => d.list == list

/-- A position in a list becomes none and the follow timer stops (R161 step 4). -/
def leaveList (s : State) (list : Nat) : State :=
  match s.evl.position with
  | none => s
  | some p => if p.1 = list then { s with evl.position := none, evl.follow := none } else s

/-- The completion of a LIST ERASE (R161). -/
def completeErase (s : State) (tag : Byte) (list : Nat) : State :=
  let erased := (listCues s.evl.memory list).length
  let dropped := s.evl.posted.filter fun e => e.list == list
  let deferred := deferredIn s list
  let s := { s with evl.memory := s.evl.memory.filter fun c => c.list != list,
                    evl.posted := s.evl.posted.filter fun e => e.list != list }
  let s := dropPosted s dropped .erased
  let s := if deferred then dropDeferred s .erased else s
  writeDone (leaveList s list) tag 0x62
    [(0x10, ub 1 erased), (0x11, ub 1 dropped.length), (0x12, flag deferred)]

/-- LIST_ERASE_COMPLETE: the erase's time has passed (R161). -/
def execListEraseComplete (s : State) : Host.Outcome State Fault Refusal :=
  match s.link.dispatcher with
  | .erasing tag list 0 => .next (completeErase s tag list)
  | _ => .next s

/-- An optional stored item: left out when absent (R174). -/
def optItem (id : Nat) (bytes : Option (List Byte)) : List (Nat × List Byte) :=
  match bytes with
  | none => []
  | some v => [(id, v)]

/-- A cue record's items, under the ids of CUE STORE (R177, R178). -/
def cueItems (c : CueRecord) : List (Nat × List Byte) :=
  [(0x10, ub 1 c.list), (0x11, ub 2 c.number)]
  ++ c.entries.map (fun e => (0x12, ub 1 e.1.val ++ ub 2 e.2))
  ++ [(0x13, ub 2 c.fade), (0x14, ub 2 c.post)] ++ optItem 0x15 (c.follow.map (ub 2))
  ++ [(0x16, ub 2 c.load), (0x17, ub 1 (policyCode c.policy))]
  ++ optItem 0x18 (c.e0.map flag) ++ optItem 0x19 (c.e2.map flag) ++ optItem 0x1A (c.e3.map flag)

/-- CUE READ (R162); the list gives one item to each cue number (log 35). -/
def ownCueRead (items : List Item) (s : State) : State × Answer :=
  let list := natOf items 0x10
  match valueOf items 0x11 with
  | some number =>
    match findCue s.evl.memory list number.toNat with
    | none => (s, plain .notFound)
    | some c => (s, doneWith (cueItems c))
  | none =>
    let cues := listCues s.evl.memory list
    (s, doneWith (cues.map (fun c => (0x10, ub 2 c.number))
      ++ [(0x11, ub 1 cues.length), (0x12, ub 1 (freeSlots s.evl.memory))]))

/-- CUE_READ (R162). -/
def execCueRead (s : State) : Host.Outcome State Fault Refusal := takeRequest .cueRead (owned ownCueRead) s

/-! ### Rows: playback -/

/-- The items of GO's reply when the cue went to admission (R164, log 11); without a TRIM the fraction is none (log
35). -/
def admissionItems (a : Admission) : List (Nat × List Byte) :=
  [(0x10, optU 1 a.result ++ optU 2 a.fraction), (0x11, ub 2 a.verdict.load), (0x12, ub 2 a.verdict.projected.toNat),
   (0x13, ub 2 a.verdict.capacity.toNat)]

/-- GO with the cue it names resolved (R164). -/
def goCue (s : State) (c : CueRecord) (post : Nat) : State × Answer :=
  if post = 0 then
    let r := admitCue s c true
    (settlePlay r.1,
     { outcome := if r.2.result.isSome then .done else .deferred, items := admissionItems r.2 })
  else if postedCapacity ≤ s.evl.posted.length then (s, plain .noSpace)
  else
    (postCue s c post,
     { outcome := .accepted, items := [(0x10, ub 4 (s.tick + BitVec.ofNat 32 post).toNat)] })

/-- GO (R164): WRONG_STATE in NIGHT_HOLD, NOT_FOUND when it names no cue; the post is the override, else the cue's
own. -/
def goNamed (named : Option CueRecord) (items : List Item) (s : State) : State × Answer :=
  if s.ops.part = .nightHold then (s, plain .wrongState)
  else
    match named with
    | none => (s, plain .notFound)
    | some c => goCue s c (((valueOf items 0x13).map Int.toNat).getD c.post)

/-- GO with a list and a cue number (R164). -/
def ownGoCue (items : List Item) (s : State) : State × Answer :=
  goNamed (findCue s.evl.memory (natOf items 0x10) (natOf items 0x11)) items s

/-- GO NEXT (R164). -/
def ownGoNext (items : List Item) (s : State) : State × Answer := goNamed (nextCue s) items s

/-- GO_CUE (R164). -/
def execGoCue (s : State) : Host.Outcome State Fault Refusal := takeRequest .goCue (owned ownGoCue) s

/-- GO_NEXT (R164). -/
def execGoNext (s : State) : Host.Outcome State Fault Refusal := takeRequest .goNext (owned ownGoNext) s

/-- POSTED_CUE_DUE: the due entries are admitted one after another (R165, log 42). -/
def execPostedCueDue (s : State) : Host.Outcome State Fault Refusal := .next (playDue postedCapacity s)

/-- A retry of the deferred cue (R168): it starts if the test admits its record as it stands. -/
def retryDeferred (s : State) : State :=
  match s.evl.deferred with
  | none => s
  | some d =>
    match findCue s.evl.memory d.list d.number with
    | none => s
    | some c =>
      if (s.ilt.test c.load).admitted then
        let s := { s with evl.deferred := none }
        settlePlay (startCue (s.post .cueLateStart d.list d.number d.spent) c 1000 c.load)
      else s

/-- TABLE_CHANGE_RETRY: the oldest table change on its way is taken (R108, R168). -/
def execTableChangeRetry (s : State) : Host.Outcome State Fault Refusal :=
  if s.transit.tableChanges = 0 then .next s
  else .next (retryDeferred { s with transit.tableChanges := s.transit.tableChanges - 1 })

/-- The defer timer has expired (R168). -/
def deferDue (s : State) : Bool :=
  match s.evl.deferred with
  | none => false
  | some d => d.left == 0

/-- DEFER_EXPIRY: the cue leaves the slot (R168). -/
def execDeferExpiry (s : State) : Host.Outcome State Fault Refusal :=
  if deferDue s then .next (dropDeferred s .deferExpired) else .next s

/-- FADE_END_EXPIRY (R170). -/
def execFadeEndExpiry (s : State) : Host.Outcome State Fault Refusal :=
  if dueTimer s.evl.fadeEnd then .next (settlePlay (fadeEnded s)) else .next s

/-- FOLLOW_EXPIRY (R170). -/
def execFollowExpiry (s : State) : Host.Outcome State Fault Refusal :=
  if dueTimer s.evl.follow then .next (settlePlay (followNext { s with evl.follow := none })) else .next s

/-- CHANNEL_FADE_END: the working level is the to-level and the fade is removed (R156). -/
def execChannelFadeEnd (ch : Fin 24) (s : State) : Host.Outcome State Fault Refusal :=
  .next { s with evl.dimmers := upd s.evl.dimmers ch Dimmer.finish }

/-- RELEASE (R171). -/
def ownRelease (items : List Item) (s : State) : State × Answer :=
  (releaseAll s (natOf items 0x10),
   doneWith [(0x10, ub 1 s.evl.posted.length), (0x11, flag s.evl.deferred.isSome)])

/-- RELEASE (R171). -/
def execRelease (s : State) : Host.Outcome State Fault Refusal := takeRequest .release (owned ownRelease) s

/-- RELEASE_TIMER_EXPIRY: the release end (R171). -/
def execReleaseTimerExpiry (s : State) : Host.Outcome State Fault Refusal :=
  if dueTimer s.evl.releaseTimer then .next (releaseEnd s) else .next s

/-! ### Rows: effects -/

/-- EFFECT SET: WRONG_STATE in NIGHT_HOLD, else the items given replace their wanted states (R157). That the reply has
one item per wanted state and one per line is the model's reading of R174, whose list of sets names neither (DEDUCED,
log 11). -/
def ownEffectSet (items : List Item) (s : State) : State × Answer :=
  if s.ops.part = .nightHold then (s, plain .wrongState)
  else
    let s := { s with
      evl.want0 := (effectItem items 0x10).getD s.evl.want0,
      evl.want2 := (effectItem items 0x11).getD s.evl.want2,
      evl.want3 := (effectItem items 0x12).getD s.evl.want3 }
    (s, doneWith
      ([s.evl.want0, s.evl.want2, s.evl.want3].map (fun b => (0x10, flag b))
       ++ [lineE0 s, lineE1 s, lineE2 s, lineE3 s].map (fun b => (0x11, flag b))))

/-- EFFECT_SET (R157). -/
def execEffectSet (s : State) : Host.Outcome State Fault Refusal := takeRequest .effectSet (owned ownEffectSet) s

/-- A dropped flash: STROBE_LIMIT once until a flash is accepted (R158). -/
def dropFlash (s : State) (cause : Nat) : State :=
  if s.evl.dropReported then s
  else ({ s with evl.dropReported := true }).post .strobeLimit 0 cause (s.evl.sinceFlash.getD 65535)

/-- A flash came too soon after the last accepted one (R158). -/
def flashTooSoon (s : State) : Bool :=
  match s.evl.sinceFlash with
  | none => false
  | some n => decide (n < (lightValues s).strobeInterval)

/-- STROBE (R158). -/
def ownStrobe (_items : List Item) (s : State) : State × Answer :=
  if s.ops.part = .nightHold then (s, plain .wrongState)
  else if s.evl.strobeInhibit then (dropFlash s 1, doneWith [(0x10, ub 1 2)])
  else if flashTooSoon s then (dropFlash s 0, doneWith [(0x10, ub 1 1)])
  else
    ({ s with evl.pulse := some (lightValues s).strobePulse, evl.sinceFlash := some 0, evl.dropReported := false },
     doneWith [(0x10, ub 1 0)])

/-- STROBE (R158). -/
def execStrobe (s : State) : Host.Outcome State Fault Refusal := takeRequest .strobe (owned ownStrobe) s

/-- STROBE_PULSE_EXPIRY: E1 turns off (R158). -/
def execStrobePulseExpiry (s : State) : Host.Outcome State Fault Refusal :=
  if dueTimer s.evl.pulse then .next { s with evl.pulse := none } else .next s

/-! ### PLAYBACK READ and the period boundary -/

/-- A list and a cue number, or none of both (R174). -/
def pairBytes (p : Option (Nat × Nat)) : List Byte := optU 1 (p.map Prod.fst) ++ optU 2 (p.map Prod.snd)

/-- A channel in PLAYBACK READ (R173), released coded 0 and driven 1 (log 35). -/
def dimmerBytes (d : Dimmer) : List Byte :=
  flag d.driven ++ ub 2 d.working ++ ub 2 d.applied ++ optU 1 (d.cls.map Fin.val)
  ++ optU 2 (d.fade.map Fade.goal) ++ optU 2 (d.fade.map fun f => f.duration - f.elapsed)

/-- PLAYBACK READ's reply items (R173): the sets its last bullet names stand packed with that bullet's other figures
(R174, log 11). -/
def playbackReadItems (_items : List Item) (s : State) : List (Nat × List Byte) :=
  let e := s.evl
  [(0x10, ub 1 (playCode e.play) ++ pairBytes e.position
      ++ pairBytes (e.recent.map fun r => (r.list, r.number)) ++ optU 2 (e.recent.map RecentCue.load)),
   (0x11, ub 2 (leftTimer e.fadeEnd) ++ ub 2 (leftTimer e.follow) ++ ub 2 (leftTimer e.releaseTimer)),
   (0x12, ub 2 e.lightLoad)]
  ++ e.posted.map (fun x => (0x13, ub 1 x.list ++ ub 2 x.number ++ ub 4 (s.tick + BitVec.ofNat 32 x.left).toNat))
  ++ [(0x14, pairBytes (e.deferred.map fun d => (d.list, d.number)) ++ optU 2 (e.deferred.map DeferredCue.left))]
  ++ e.dimmers.toList.map (fun d => (0x15, dimmerBytes d))
  ++ [(0x16, flag e.want0 ++ flag e.want2 ++ flag e.want3 ++ flag (lineE0 s) ++ flag (lineE1 s) ++ flag (lineE2 s)
        ++ flag (lineE3 s) ++ flag s.fgw.haze ++ flag e.hazeInhibit ++ flag e.strobeInhibit
        ++ ub 2 (e.sinceFlash.getD 65535))]

/-- PLAYBACK_READ (R173). -/
def execPlaybackRead (s : State) : Host.Outcome State Fault Refusal :=
  takeRequest .playbackRead (reads playbackReadItems) s

/-- CHANNEL_PERIOD_BOUNDARY: a driven channel's applied level and period class are taken (R154, R155). -/
def execChannelPeriodBoundary (ch : Fin 24) (s : State) : Host.Outcome State Fault Refusal :=
  if s.evl.dimmers[ch].driven then
    .next { s with evl.dimmers := upd s.evl.dimmers ch fun d =>
      { d with applied := d.working, cls := some (lightValues s).classes[ch] } }
  else .next s

end Sys2Proof.Machine
end

