-- ==== Sys2Proof/Machine/Plant.lean ====
section
/-! DEFINITION. The plant coordinator (chapter 5): ice states, the applied raise and band, the stage decision, the
recovered supply and subfloor demand, and its rows of the table. -/

namespace Sys2Proof.Machine

open Sys2Proof

/-! ### Figures in force (R78, R86, R87) -/

/-- The host-chosen state in force: the ice state itself, else the prior state (R78). -/
def inForce (s : State) : IceMode := (modeOfIce s.plt.ice).getD (s.plt.prior.getD .hold)

/-- The profile items of the state in force. -/
def modeValues (s : State) : ModeSettings := (plantValues s).modes[iceModeIdx (inForce s)]

/-- The raise ceiling of the current ice state: 0 in RESURFACE, RECOVER and SOFT (R86). -/
def raiseCeiling (s : State) : Int := if (modeOfIce s.plt.ice).isSome then (modeValues s).ceiling else 0

/-- The applied raise as judged: the smaller of the request and the ceiling (R86). -/
def judgedRaise (s : State) : Int := min s.plt.request (raiseCeiling s)

/-- The band low in force (R87). -/
def bandLow (s : State) : Int := (modeValues s).bandLow + s.plt.applied

/-- The band high in force (R87). -/
def bandHigh (s : State) : Int := (modeValues s).bandHigh + s.plt.applied

/-- The brine setpoint (R87). -/
def brineSetpoint (s : State) : Int := bandLow s - (plantValues s).approach

/-- FOG_RAISE: minus the whole 0.10 steps of the applied raise times the raise credit (R87). -/
def fogRaise (s : State) : Int := -((s.plt.applied / 10) * ((plantValues s).credit : Int))

/-- The RESURFACE entry of the present ice state (R80, R83): the flood load in RESURFACE, falling with the remaining
recover time in RECOVER, 0 otherwise. -/
def resurfaceEntry (s : State) : Nat :=
  match s.plt.ice with
  | .resurface => (plantValues s).flood
  | .recover =>
    (plantValues s).flood * ((plantValues s).recoverLimit - s.plt.recoverTicks) / (plantValues s).recoverLimit
  | .hold | .practice | .game | .covered | .soft => 0

/-! ### Load and capacity (R89, R95, R96) -/

/-- A stage's profile items. -/
def stageValues (s : State) (n : Fin 6) : StageSettings := (plantValues s).stages[n]

/-- The capacity of the stages not LOCKED_OUT (R95). -/
def notLockedCapacity (s : State) : Nat :=
  sumOver 6 fun n => if s.plt.stages[n].state = .lockedOut then 0 else (stageValues s n).capacity

/-- The online capacity: stages in STARTING or RUNNING (R89). -/
def onlineCapacity (s : State) : Nat :=
  sumOver 6 fun n =>
    if s.plt.stages[n].state = .starting ∨ s.plt.stages[n].state = .running then (stageValues s n).capacity else 0

/-- The surface correction: the started 0.10 steps by which the mean exceeds band high, times the gain (R89). -/
def surfaceCorrection (s : State) : Nat :=
  match s.plt.mean with
  | none => 0
  | some m => ceilDiv (m - bandHigh s).toNat 10 * (plantValues s).gain

/-- The boost: the capacity of the lowest-numbered OFF stage while PLANT_BOOST's latched level is active (R89), unless
it was active at the entry to RUN and has not changed since (R77, log 36). -/
def boost (s : State) : Nat :=
  if gateLevel s 5 && !s.plt.boostHeld then
    match places 6 (fun n => s.plt.stages[n].state == .off) with
    | [] => 0
    | n :: _ => (stageValues s n).capacity
  else 0

/-- The required capacity (R89). -/
def requiredCapacity (s : State) : Int := s.ilt.total + surfaceCorrection s + boost s

/-- The recovered-heat supply of the stages in RUNNING (R96). -/
def supplyFigure (s : State) : Nat :=
  (sumOver 6 fun n => if s.plt.stages[n].state = .running then (stageValues s n).recovery else 0) * s.plt.derate / 100

/-! ### Postings -/

/-- An update of the ice load table (R100). -/
def postPlant (s : State) (u : PlantUpdate) : State := s.postLoad (.plant u)

/-- The supply is recomputed, and handed to the heat allocation table if it changed (R95, R96). -/
def recomputeSupply (s : State) : State :=
  if supplyFigure s = s.plt.supply then s
  else ({ s with plt.supply := supplyFigure s }).postHeat (.plant (some (supplyFigure s)) none)

/-- The brine setpoint output follows the setpoint from the entry to RUN on (R87). -/
def driveBrine (s : State) : State := if running s then { s with plt.brineOut := brineSetpoint s } else s

/-- The applied raise judged afresh, band and brine setpoint following (R86, R87). -/
def judgeRaise (s : State) : State := driveBrine { s with plt.applied := judgedRaise s }

/-! ### Stages (R88, R90 to R95) -/

/-- A stage record on entry to a state: ticks from 0, the start limit or stop time loaded where the state has one
(R88, R92, R93). -/
def Stage.enter (st : Stage) (v : StageSettings) (dest : StageState) (cause : LockCause) : Stage :=
  { st with
    state := dest, cause := cause, ticks := 0, minDue := false,
    startTimer := if dest = .starting then some v.startLimit else none,
    stopTimer := if dest = .stopping then some v.stopTime else none }

/-- A stage change with its effects but the further decision (R95): supply, capacity, notice; the run line follows the
state (R88). -/
def stageChange (s : State) (n : Fin 6) (dest : StageState) (cause : LockCause) : State :=
  let left := s.plt.stages[n].state
  let s := { s with plt.stages := upd s.plt.stages n fun st => st.enter (stageValues s n) dest cause }
  let s := if (left == .running) != (dest == .running) then recomputeSupply s else s
  let s := if (left == .lockedOut) != (dest == .lockedOut) then
      postPlant s { PlantUpdate.empty with capacity := some (notLockedCapacity s) } else s
  if dest = .lockedOut then s.post .stageLockout (n.val + 1) (lockCode cause) (stageCode left) else s

/-- The stage is OFF and its minimum off has passed (R91). -/
def offPassed (s : State) (n : Fin 6) : Bool :=
  s.plt.stages[n].state == .off && decide ((stageValues s n).minOff ≤ s.plt.stages[n].ticks)

/-- The stage is RUNNING and its minimum run has passed (R91). -/
def runPassed (s : State) (n : Fin 6) : Bool :=
  s.plt.stages[n].state == .running && decide ((stageValues s n).minRun ≤ s.plt.stages[n].ticks)

/-- Some stage is STARTING. -/
def someStarting (s : State) : Bool := anyOf 6 fun n => s.plt.stages[n].state == .starting

/-- One taking of the stage decision: the changed state, or none when it changes nothing (R90). -/
def decideOnce (s : State) : Option State :=
  if (onlineCapacity s : Int) < requiredCapacity s ∧ someStarting s = false then
    ((places 6 (offPassed s)).head?).map fun n => stageChange s n .starting .none
  else
    match (places 6 (runPassed s)).getLast? with
    | none => none
    | some n =>
      if requiredCapacity s + (plantValues s).stopHysteresis ≤ (onlineCapacity s : Int) - (stageValues s n).capacity then
        some (stageChange s n .stopping .none)
      else none

/-- The decision taken again until it changes nothing: at most one start and six stops (R90, log 30). -/
def decideRepeat : Nat → State → State
  | 0, s => s
  | k + 1, s =>
    match decideOnce s with
    | none => s
    | some s' => decideRepeat k s'

/-- The stage decision; not taken before the part has entered RUN (R77, R90). -/
def stageDecision (s : State) : State := if running s then decideRepeat 8 s else s

/-! ### Soft watch and soft clear (R84, R85) -/

/-- The soft watch condition (R84). -/
def softCondition (s : State) : Bool :=
  (s.plt.ice == .practice || s.plt.ice == .game || s.plt.ice == .covered || s.plt.ice == .recover) &&
  match s.plt.mean with
  | none => false
  | some m => decide (bandHigh s + (plantValues s).softMargin < m)

/-- The surface mean exists and is at or below the band high in force (R83, R85). -/
def withinBand (s : State) : Bool :=
  match s.plt.mean with
  | none => false
  | some m => decide (m ≤ bandHigh s)

/-- The soft watch judged (R84). -/
def judgeSoftWatch (s : State) : State :=
  { s with plt.softWatch := watchTimer (softCondition s) (plantValues s).softDelay s.plt.softWatch }

/-- The soft clear judged: idle outside SOFT (R85). -/
def judgeSoftClear (s : State) : State :=
  { s with plt.softClear :=
      watchTimer (s.plt.ice == .soft && withinBand s) (plantValues s).softClear s.plt.softClear }

/-! ### Changes of ice state (R80) -/

/-- A change of ice state with all its effects (R78, R80, R83 to R87). -/
def changeIce (s : State) (dest : IceState) (prior : Option IceMode) : State :=
  let left := s.plt.ice
  let s := { s with
    plt.ice := dest, plt.prior := prior, plt.recoverTicks := 0, plt.secondDue := false,
    plt.recover := if dest = .recover then some (plantValues s).recoverLimit else none }
  let s := judgeRaise s
  let s := postPlant s { PlantUpdate.empty with
    base := some (modeValues s).baseLoad, factor := some (modeValues s).factor, resurface := some (resurfaceEntry s),
    fogRaise := some (fogRaise s) }
  let s := if (dest == .soft) != (left == .soft) then s.postCap (.soft (dest == .soft)) else s
  let s := stageDecision (judgeSoftClear (judgeSoftWatch s))
  s.post .iceState 0 (iceCode dest) (iceCode left)

/-- The return to the prior state, which becomes none (R83, R85). -/
def returnIce (s : State) : State := changeIce s (iceOfMode (s.plt.prior.getD .hold)) none

/-- A change of the RESURFACE gate's latched level (R81). -/
def resurfaceGate (s : State) (level : Bool) : State :=
  if !running s then s
  else if level then
    if s.plt.ice = .practice ∨ s.plt.ice = .game then changeIce s .resurface (modeOfIce s.plt.ice) else s
  else if s.plt.ice = .resurface then changeIce s .recover s.plt.prior
  else s

/-- A change of the PLANT_BOOST gate's latched level: from it on the gate is acted on, and the decision is taken (R77,
R90). -/
def boostGate (s : State) : State := stageDecision { s with plt.boostHeld := false }

/-! ### Group updates (R82, R83, R96, R97) -/

/-- The usable group A readings. -/
def usableA (s : State) : List Int := (List.finRange 8).filterMap (usableValue s .a)

/-- The surface mean: over at least 3 usable A records, the whole part toward zero (R82). -/
def surfaceMean (s : State) : Option Int :=
  if 3 ≤ (usableA s).length then some ((usableA s).sum.tdiv (usableA s).length) else none

/-- A group A update (R82 to R85, R90). -/
def groupAUpdate (s : State) : State :=
  if !running s then s
  else
    let before := surfaceCorrection s
    let s := { s with plt.mean := surfaceMean s }
    if s.plt.ice = .recover ∧ withinBand s = true then returnIce s
    else
      let s := judgeSoftClear (judgeSoftWatch s)
      if surfaceCorrection s = before then s else stageDecision s

/-- The derate factor at a condenser water temperature (R96). -/
def derateAt (p : PlantProfile) (c2 : Int) : Nat :=
  if c2 ≤ p.derateStart then 100
  else if p.derateEnd ≤ c2 then 50
  else 100 - (50 * (c2 - p.derateStart) / (p.derateEnd - p.derateStart)).toNat

/-- The lower of the usable C6 and C7 (R97). -/
def lowerSubfloor (s : State) : Option Int :=
  match usableValue s .c 6, usableValue s .c 7 with
  | some x, some y => some (min x y)
  | some x, none => some x
  | none, y => y

/-- The subfloor demand (R97). -/
def subfloorFigure (s : State) : Nat :=
  let p := plantValues s
  match lowerSubfloor s with
  | none => p.subfloorMax
  | some t => clip (((p.subfloorLimit - t) * p.subfloorGain).tdiv 100) p.subfloorMax

/-- The derate factor judged; kept when C2 is not usable (R96). -/
def judgeDerate (s : State) : State :=
  match usableValue s .c 2 with
  | none => s
  | some c2 => { s with plt.derate := derateAt (plantValues s) c2 }

/-- The derate factor, the supply and the subfloor demand judged; what changed is handed on in one posting (R96, R97).
-/
def judgeHeatSide (s : State) : State :=
  let s := judgeDerate s
  let supply := supplyFigure s
  let demand := subfloorFigure s
  let newSupply := if supply = s.plt.supply then none else some supply
  let newDemand := if demand = s.plt.subfloor then none else some demand
  let s := { s with plt.supply := supply, plt.subfloor := demand }
  if newSupply.isSome || newDemand.isSome then s.postHeat (.plant newSupply newDemand) else s

/-- A group C update (R96, R97). -/
def groupCUpdate (s : State) : State := if running s then judgeHeatSide s else s

/-- The update of one event to the coordinator, of groups A and C as the event changed their records (R43). -/
def plantUpdate (a c : Bool) (s : State) : State :=
  let s := if a then groupAUpdate s else s
  if c then groupCUpdate s else s

/-! ### Settle end and entry to RUN (R76, R77) -/

/-- Every figure of an update at a settle end or at the entry to RUN (R76, R77, R100). -/
def wholeUpdate (s : State) : PlantUpdate :=
  { base := some (modeValues s).baseLoad, resurface := some (resurfaceEntry s), fogRaise := some (fogRaise s),
    factor := some (modeValues s).factor, capacity := some (notLockedCapacity s), crowd := some (plantValues s).crowd,
    reserve := some (plantValues s).reserve, exitMargin := some (plantValues s).exitMargin }

/-- The coordinator's part of a PLANT settle end in RUN, NIGHT_HOLD or FALLBACK (R76), the values being in effect. -/
def plantSettled (s : State) : State :=
  let before := s.plt.applied
  let s := judgeRaise s
  let s := if s.plt.applied = before then s else judgeSoftWatch s
  stageDecision (judgeHeatSide (postPlant s (wholeUpdate s)))

/-- The coordinator's part of the entry to RUN (R77). -/
def plantEnterRun (s : State) : State :=
  let s := judgeRaise { s with plt.mean := surfaceMean s, plt.boostHeld := gateLevel s 5 }
  let s := postPlant s (wholeUpdate s)
  let s := judgeDerate s
  let s := { s with plt.subfloor := subfloorFigure s }
  stageDecision (s.postHeat (.plant (some s.plt.supply) (some s.plt.subfloor)))

/-! ### Rows of the table -/

/-- The moves ICE MODE permits (R79). -/
def iceMoves : IceState → List IceState
  | .hold => [.practice, .game, .covered]
  | .practice => [.game, .hold, .resurface]
  | .game => [.practice, .hold, .resurface]
  | .covered => [.hold]
  | .resurface => [.recover]
  | .recover => []
  | .soft => [.hold]

/-- The prior state an accepted ICE MODE leaves (R78, R79). -/
def priorAfterMove (s : State) (dest : IceState) : Option IceMode :=
  match dest with
  | .resurface => modeOfIce s.plt.ice
  | .recover => s.plt.prior
  | .hold | .practice | .game | .covered | .soft => none

/-- ICE MODE (R79). -/
def ownIceMode (items : List Item) (s : State) : State × Answer :=
  let dest := iceOf (natOf items 0x10)
  let left := s.plt.ice
  if (iceMoves left).contains dest = false then (s, plain .wrongState)
  else if (dest = .game ∨ dest = .covered) ∧ anySubstituted s = true then (s, plain .wrongState)
  else
    (sync (changeIce s dest (priorAfterMove s dest)),
     doneWith [(0x10, ub 1 (iceCode dest)), (0x11, ub 1 (iceCode left))])

/-- ICE_MODE (R79). -/
def execIceMode (s : State) : Host.Outcome State Fault Refusal := takeRequest .iceMode (owned ownIceMode) s

/-- SOFT_WATCH_EXPIRY: the ice enters SOFT, keeping a prior state held, and SOFT_ICE follows ICE_STATE (R84). -/
def execSoftWatchExpiry (s : State) : Host.Outcome State Fault Refusal :=
  if dueTimer s.plt.softWatch then
    let mean := s.plt.mean.getD 0
    let high := bandHigh s
    let prior := if s.plt.prior.isSome then s.plt.prior else modeOfIce s.plt.ice
    let s := changeIce { s with plt.softWatch := none } .soft prior
    .next (sync (s.post .softIce 0 mean high))
  else .next s

/-- SOFT_CLEAR_EXPIRY: the ice returns to its prior state (R85). -/
def execSoftClearExpiry (s : State) : Host.Outcome State Fault Refusal :=
  if dueTimer s.plt.softClear then .next (sync (returnIce { s with plt.softClear := none })) else .next s

/-- RECOVER_LIMIT_EXPIRY: the ice returns to its prior state (R83). -/
def execRecoverLimitExpiry (s : State) : Host.Outcome State Fault Refusal :=
  if dueTimer s.plt.recover then .next (sync (returnIce { s with plt.recover := none })) else .next s

/-- RECOVER_SECOND: the falling RESURFACE entry is handed to the ice load table (R83). -/
def execRecoverSecond (s : State) : Host.Outcome State Fault Refusal :=
  if s.plt.secondDue then
    let s := { s with plt.secondDue := false }
    .next (if s.plt.ice = .recover then
      postPlant s { PlantUpdate.empty with resurface := some (resurfaceEntry s) } else s)
  else .next s

/-- A raise request taken by the coordinator: kept, and from the entry to RUN on applied with its effects (R86, R87). -/
def takeRaise (s : State) (r : Int) : State :=
  let s := { s with plt.request := r }
  if running s then
    let correction := surfaceCorrection s
    let raised := fogRaise s
    let applied := s.plt.applied
    let s := judgeRaise s
    let s := if fogRaise s = raised then s else postPlant s { PlantUpdate.empty with fogRaise := some (fogRaise s) }
    let s := if s.plt.applied = applied then s else judgeSoftWatch s
    if surfaceCorrection s = correction then s else stageDecision s
  else s

/-- RAISE_REQUEST: the coordinator takes the oldest raise request handed to it (R86). -/
def execRaiseRequest (s : State) : Host.Outcome State Fault Refusal :=
  match s.transit.raises with
  | [] => .next s
  | r :: rest => .next (takeRaise { s with transit.raises := rest } r)

/-- A stage's confirm input read: STARTING and high goes to RUNNING, from the tick after its entry on; RUNNING and low
is locked out (R92, R93). -/
def confirmStage (levels : Vector Bool 6) (s : State) (n : Fin 6) : State :=
  let s := { s with plt.stages := upd s.plt.stages n fun st => { st with confirm := levels[n] } }
  if s.plt.stages[n].state = .starting ∧ levels[n] = true ∧ 0 < s.plt.stages[n].ticks then
    stageChange s n .running .none
  else if s.plt.stages[n].state = .running ∧ levels[n] = false then stageChange s n .lockedOut .confirmLost
  else s

/-- CONFIRM_READ: the six inputs are read and judged by their own stages' states, and a stage change brings the decision
(R92, R93, R95). That several stages change in ascending stage number, each with its own notice and postings, and that
one decision follows them, is the model's choice (log 13). -/
def execConfirmRead (levels : Vector Bool 6) (s : State) : Host.Outcome State Fault Refusal :=
  if s.plt.confirmDue then
    let before := tabMap Stage.state s.plt.stages
    let s := (List.finRange 6).foldl (confirmStage levels) { s with plt.confirmDue := false }
    .next (if tabMap Stage.state s.plt.stages = before then s else stageDecision s)
  else .next s

/-- START_LIMIT_EXPIRY: a stage still STARTING is locked out with cause NO_CONFIRM (R92). -/
def execStartLimitExpiry (n : Fin 6) (s : State) : Host.Outcome State Fault Refusal :=
  if dueTimer s.plt.stages[n].startTimer then .next (stageDecision (stageChange s n .lockedOut .noConfirm))
  else .next s

/-- STOP_TIME_EXPIRY: a STOPPING stage enters OFF (R93). -/
def execStopTimeExpiry (n : Fin 6) (s : State) : Host.Outcome State Fault Refusal :=
  if dueTimer s.plt.stages[n].stopTimer then .next (stageDecision (stageChange s n .off .none)) else .next s

/-- MINIMUM_PASSED: the passing of a stage's minimum brings a stage decision (R91). -/
def execMinimumPassed (n : Fin 6) (s : State) : Host.Outcome State Fault Refusal :=
  if s.plt.stages[n].minDue then
    .next (stageDecision { s with plt.stages := upd s.plt.stages n fun st => { st with minDue := false } })
  else .next s

/-- The stage a STAGE LOCK names, 1 to 6 (R94). -/
def stageNamed (items : List Item) : Fin 6 := Fin.ofNat 6 (natOf items 0x10 - 1)

/-- STAGE LOCK's reply: the stage's state and lockout cause after the request (R94). -/
def stageLockReply (s : State) (n : Fin 6) : Answer :=
  doneWith [(0x10, ub 1 (stageCode s.plt.stages[n].state)), (0x11, ub 1 (lockCode s.plt.stages[n].cause))]

/-- LOCK: a stage not LOCKED_OUT is locked out with cause HOST (R94). -/
def ownStageLock (items : List Item) (s : State) : State × Answer :=
  let n := stageNamed items
  if s.plt.stages[n].state = .lockedOut then (s, stageLockReply s n)
  else
    let s := stageDecision (stageChange s n .lockedOut .host)
    (s, stageLockReply s n)

/-- STAGE_LOCK_LOCK (R94). -/
def execStageLockLock (s : State) : Host.Outcome State Fault Refusal := takeRequest .stageLockLock (owned ownStageLock) s

/-- UNLOCK: a LOCKED_OUT stage enters OFF with cause NONE; any other is refused WRONG_STATE (R94). -/
def ownStageUnlock (items : List Item) (s : State) : State × Answer :=
  let n := stageNamed items
  if s.plt.stages[n].state = .lockedOut then
    let s := stageDecision (stageChange s n .off .none)
    (s, stageLockReply s n)
  else (s, plain .wrongState)

/-- STAGE_LOCK_UNLOCK (R94). -/
def execStageLockUnlock (s : State) : Host.Outcome State Fault Refusal :=
  takeRequest .stageLockUnlock (owned ownStageUnlock) s

/-- TABLE_UPDATE: the oldest table update handed on by the ice load table is taken as a stage decision (R90, R108). -/
def execTableUpdate (s : State) : Host.Outcome State Fault Refusal :=
  if s.transit.tableUpdates = 0 then .next s
  else .next (stageDecision { s with transit.tableUpdates := s.transit.tableUpdates - 1 })

/-- PLANT READ's reply items (R98, log 11, log 44). -/
def plantReadItems (_items : List Item) (s : State) : List (Nat × List Byte) :=
  [(0x10, ub 1 (iceCode s.plt.ice) ++ optU 1 (s.plt.prior.map fun m => iceCode (iceOfMode m))),
   (0x11, sb 2 s.plt.request ++ sb 2 s.plt.applied ++ sb 2 (bandLow s) ++ sb 2 (bandHigh s) ++ sb 2 (brineSetpoint s)),
   (0x12, optTemp s.plt.mean ++ ub 1 (usableA s).length),
   (0x13, ub 2 (surfaceCorrection s) ++ ub 2 (boost s) ++ flag (gateLevel s 5)),
   (0x14, ub 2 (requiredCapacity s).toNat ++ ub 2 (onlineCapacity s)),
   (0x15, ub 2 (leftTimer s.plt.softWatch) ++ ub 2 (leftTimer s.plt.softClear) ++ ub 2 (leftTimer s.plt.recover))]
  ++ s.plt.stages.toList.map (fun st =>
      (0x16, ub 1 (stageCode st.state) ++ ub 1 (lockCode st.cause) ++ ub 2 st.ticks ++ flag st.confirm
        ++ ub 2 (leftTimer (if st.startTimer.isSome then st.startTimer else st.stopTimer))))
  ++ [(0x17, ub 1 s.plt.derate ++ ub 2 s.plt.supply ++ ub 2 s.plt.subfloor)]

/-- PLANT_READ (R98). -/
def execPlantRead (s : State) : Host.Outcome State Fault Refusal := takeRequest .plantRead (reads plantReadItems) s

end Sys2Proof.Machine
end

