-- ==== Sys2Proof/Machine/Stands.lean ====
section
/-! DEFINITION. Spectator heating (chapter 8): zone states, demands and caps, the stage hand-out, the STANDS entry, and
its rows of the table. -/

namespace Sys2Proof.Machine

open Sys2Proof

/-! ### Demand (R130, R131, R132) -/

/-- The HEAT items of a zone. -/
def zoneValues (s : State) (z : Fin 8) : ZoneSettings := (heatValues s).zones[z]

/-- The air temperature of a zone, when usable: ZONEn reads Dn−1 (R127). -/
def zoneTemp (s : State) (z : Fin 8) : Option Int := usableValue s .d z

/-- The cap in force for near-ice zones: the smallest of the figures of R131. -/
def capInForce (s : State) : Nat :=
  let c := min 100 s.sph.fogCap
  let c := if s.sph.overBudget then min c (heatValues s).budgetCap else c
  if s.sph.soft || s.sph.secondary then 0 else c

/-- The cap in force for a zone: 100 % for one that is not near-ice (R131, R138). -/
def zoneCap (s : State) (z : Fin 8) : Nat := if (zoneValues s z).nearIce then capInForce s else 100

/-- A demand held at a target: kept as it stood when the temperature is not usable (R130). -/
def heldDemand (s : State) (z : Fin 8) (target : Int) : Nat :=
  match zoneTemp s z with
  | none => s.sph.zones[z].raw
  | some t => clip (((zoneValues s z).gain * (target - t)).tdiv 100) (zoneValues s z).max

/-- The raw demand of a zone (R130). -/
def rawFigure (s : State) (z : Fin 8) : Nat :=
  match s.sph.zones[z].state with
  | .preheat => (zoneValues s z).max
  | .occupied => heldDemand s z (s.sph.zones[z].target.getD 0)
  | .setback => heldDemand s z (zoneValues s z).setback
  | .off => 0
  | .inhibited => 0

/-- A zone with its raw demand and demand formed again, if it is one of those to form (R131, R132). -/
def formZone (s : State) (which : Fin 8 → Bool) (z : Fin 8) : Zone :=
  let zone := s.sph.zones[z]
  if which z then { zone with raw := rawFigure s z, demand := rawFigure s z * zoneCap s z / 100 } else zone

/-- The zones whose demand differs from an earlier table, with the new demands. -/
def changedDemands (before after : Vector Zone 8) : List (Fin 8 × Nat) :=
  (places 8 fun z => after[z].demand != before[z].demand).map fun z => (z, after[z].demand)

/-- Changed demands are posted to the heat allocation table as one posting, and nothing is when none changed (R132). -/
def postDemands (s : State) (before : Vector Zone 8) : State :=
  match changedDemands before s.sph.zones with
  | [] => s
  | demands => s.postHeat (.zones demands)

/-- The demands of some zones formed again and the changed ones posted (R132). -/
def reformZones (which : Fin 8 → Bool) (s : State) : State :=
  postDemands { s with sph.zones := Vector.ofFn (formZone s which) } s.sph.zones

/-! ### The stage hand-out (R133, R134) -/

/-- A zone's shortfall (R134 step 1). -/
def shortfall (s : State) (z : Fin 8) : Nat :=
  match s.sph.zones[z].state with
  | .off | .inhibited => 0
  | .preheat | .occupied | .setback => s.sph.zones[z].demand - s.sph.zones[z].grant

/-- A zone's wanted count (R134 step 2). -/
def wantedCount (s : State) (z : Fin 8) : Nat :=
  min (ceilDiv (shortfall s z) (zoneValues s z).stageKw) (zoneValues s z).stageCount

/-- The stages of a zone that are on. -/
def onCount (hs : Vector HeaterStage 3) : Nat := (places 3 fun n => hs[n].on).length

/-- The held count: stages on whose minimum on has not passed (R134 step 3). -/
def heldCount (hs : Vector HeaterStage 3) : Nat := (places 3 fun n => hs[n].on && hs[n].minOn.isSome).length

/-- The room under the electric stage cap (R134 step 4). -/
def stageRoom (s : State) : Nat := (heatValues s).stageCap - sumOver 8 fun z => heldCount s.sph.zones[z].heaters

/-- A zone placed among those in order of shortfall, largest first, after the ones of an equal shortfall. -/
def insertClaim (f : Fin 8 → Nat) (z : Fin 8) : List (Fin 8) → List (Fin 8)
  | [] => [z]
  | y :: ys => if f y < f z then z :: y :: ys else y :: insertClaim f z ys

/-- The zones that want more than they hold, in the order of R134 step 5. -/
def claimOrder (s : State) : List (Fin 8) :=
  (places 8 fun z => decide (heldCount s.sph.zones[z].heaters < wantedCount s z)).foldl
    (fun order z => insertClaim (shortfall s) z order) []

/-- What each zone takes of the room in turn (R134 step 5). -/
def shareRoom (need : Fin 8 → Nat) : Nat → List (Fin 8) → List (Fin 8 × Nat)
  | _, [] => []
  | room, z :: zs => (z, min (need z) room) :: shareRoom need (room - min (need z) room) zs

/-- What a zone takes in the hand-out. -/
def takenBy (taken : List (Fin 8 × Nat)) (z : Fin 8) : Nat := ((taken.filter fun t => t.1 == z).map Prod.snd).sum

/-- The highest-numbered stages whose minimum on has passed turned off, as many as given (R134 step 6). -/
def dropStages (k : Nat) (hs : Vector HeaterStage 3) : Vector HeaterStage 3 :=
  ((List.finRange 3).reverse.foldl (fun acc n =>
    if 0 < acc.1 ∧ acc.2[n].on = true ∧ acc.2[n].minOn = none then
      (acc.1 - 1, upd acc.2 n fun st => { st with on := false })
    else acc) (k, hs)).2

/-- The lowest-numbered stages that are off turned on, as many as given, their minimum on loaded (R133, R134 step 6). -/
def addStages (minOn k : Nat) (hs : Vector HeaterStage 3) : Vector HeaterStage 3 :=
  ((List.finRange 3).foldl (fun acc n =>
    if 0 < acc.1 ∧ acc.2[n].on = false then
      (acc.1 - 1, upd acc.2 n fun _ => { on := true, minOn := some minOn })
    else acc) (k, hs)).2

/-- A zone's stages brought to its count (R134 step 6). -/
def toCount (minOn count : Nat) (hs : Vector HeaterStage 3) : Vector HeaterStage 3 :=
  if count < onCount hs then dropStages (onCount hs - count) hs else addStages minOn (count - onCount hs) hs

/-- The stage hand-out, for every zone at once (R134). -/
def handOut (s : State) : State :=
  let taken := shareRoom (fun z => wantedCount s z - heldCount s.sph.zones[z].heaters) (stageRoom s) (claimOrder s)
  { s with sph.zones := Vector.ofFn fun z : Fin 8 =>
      let zone := s.sph.zones[z]
      { zone with
        heaters := toCount (heatValues s).minOn (heldCount zone.heaters + takenBy taken z) zone.heaters } }

/-! ### STANDS (R136) -/

/-- The STANDS figure (R136). -/
def standsFigure (s : State) : Nat :=
  sumOver 8 fun z =>
    (s.sph.zones[z].grant + onCount s.sph.zones[z].heaters * (zoneValues s z).stageKw) * (zoneValues s z).spill / 100

/-- STANDS formed, and posted to the ice load table when it differs from the last posted (R136). -/
def postStands (s : State) : State :=
  if standsFigure s = s.sph.stands then s
  else ({ s with sph.stands := standsFigure s }).postLoad (.stands (standsFigure s))

/-! ### Changes of zone state (R127, R128, R129) -/

/-- Every stage of a zone off, its minimum on timers idle (R133). -/
def stagesOff : Vector HeaterStage 3 := Vector.replicate 3 { on := false, minOn := none }

/-- A zone as it enters a state, with its preheat limit timer; an entry to OFF or INHIBITED turns its stages off
(R127). -/
def Zone.enter (zone : Zone) (dest : ZoneState) (remembered : Option ZoneState) (timer : Timer) : Zone :=
  { zone with
    state := dest, remembered := remembered, preheat := timer,
    heaters := if dest = .off ∨ dest = .inhibited then stagesOff else zone.heaters }

/-- A zone's record replaced. -/
def setZone (s : State) (z : Fin 8) (f : Zone → Zone) : State := { s with sph.zones := upd s.sph.zones z f }

/-- What follows a change of a zone's state or target: its demands, and after an entry to OFF or INHIBITED the hand-out
and STANDS (R132, R133, R135, R136). -/
def afterZone (s : State) (z : Fin 8) (entered : Bool) : State :=
  let s := reformZones (fun y => y == z) s
  if entered then postStands (handOut s) else s

/-- A zone that has entered OFF or INHIBITED. -/
def heatless (dest : ZoneState) : Bool := dest == .off || dest == .inhibited

/-- The zone meets its target band: usable and at or above the target less 0.50 °C (R128). -/
def meetsBand (s : State) (z : Fin 8) : Bool :=
  match zoneTemp s z with
  | none => false
  | some t => decide (s.sph.zones[z].target.getD 0 - 50 ≤ t)

/-- The entry test for a target: PREHEAT when not usable or below the target less 1.00 °C, else OCCUPIED (R128). -/
def entryTest (s : State) (z : Fin 8) (target : Int) : ZoneState :=
  match zoneTemp s z with
  | none => .preheat
  | some t => if t < target - 100 then .preheat else .occupied

/-- The gate ZONE_INHIBIT of a zone: gates 6 to 13 (R70). -/
def inhibitGate (z : Fin 8) : Fin 14 := ⟨z.val + 6, by omega⟩

/-- A change of a zone's inhibit gate to a level is acted on: a rise outside OFF and INHIBITED, a fall in INHIBITED
(R129). -/
def inhibitActs (zone : Zone) (level : Bool) : Bool :=
  if level then !heatless zone.state else zone.state == .inhibited

/-- A zone as a change of its inhibit gate that is acted on leaves it (R129). -/
def inhibitZone (s : State) (z : Fin 8) (level : Bool) : Zone :=
  let zone := s.sph.zones[z]
  if level then zone.enter .inhibited (some zone.state) none
  else
    let back := zone.remembered.getD .off
    let dest := if back = .preheat ∧ meetsBand s z = true then .occupied else back
    zone.enter dest none (if dest = .preheat then some (zoneValues s z).preheat else none)

/-- The zone inhibit gates that changed in one base-tick event, with their new levels (R129): every zone takes its
change, then the demands are formed and posted once, and after an entry to OFF or INHIBITED the hand-out is taken and
STANDS formed once, at the end of the event (R132, R133, R135, R136, log 9). None is acted on before RUN (R126). -/
def zoneInhibits (s : State) (changed : Fin 8 → Bool) : State :=
  let level z := gateLevel s (inhibitGate z)
  let acts z := running s && changed z && inhibitActs s.sph.zones[z] (level z)
  let moved := Vector.ofFn fun z : Fin 8 => if acts z then inhibitZone s z (level z) else s.sph.zones[z]
  let t := reformZones acts { s with sph.zones := moved }
  if anyOf 8 fun z => acts z && heatless moved[z].state then postStands (handOut t) else t

/-- A zone taken to the state a ZONE SET gives it (R128, R129): an INHIBITED zone remembers it, no timer running
until its return, and one leaving OFF under an active inhibit gate enters INHIBITED instead. -/
def setZoneState (s : State) (z : Fin 8) (dest : ZoneState) : State :=
  let zone := s.sph.zones[z]
  if zone.state = .inhibited then
    afterZone (setZone s z fun zone => { zone with remembered := some dest, preheat := none }) z false
  else if zone.state = .off ∧ dest ≠ .off ∧ gateLevel s (inhibitGate z) = true then
    afterZone (setZone s z fun zone => zone.enter .inhibited (some dest) none) z true
  else
    let timer :=
      if dest = .preheat then (if zone.state = .preheat then zone.preheat else some (zoneValues s z).preheat) else none
    afterZone (setZone s z fun zone => zone.enter dest none timer) z (heatless dest)

/-! ### Group D, settle end, night entry (R125, R128, R132, R137) -/

/-- The PREHEAT zones that meet their band enter OCCUPIED (R128). -/
def judgePreheats (s : State) : State :=
  { s with sph.zones := Vector.ofFn fun z : Fin 8 =>
      let zone := s.sph.zones[z]
      if zone.state = .preheat ∧ meetsBand s z = true then zone.enter .occupied none none else zone }

/-- A group D update (R128, R132); none is taken before RUN (R126). -/
def groupDUpdate (s : State) : State :=
  if running s then
    let before := s.sph.zones
    let s := judgePreheats s
    postDemands { s with sph.zones := Vector.ofFn (formZone s fun _ => true) } before
  else s

/-- The stages above their zone's stage count turned off (R125). -/
def dropAboveCount (s : State) : State :=
  { s with sph.zones := Vector.ofFn fun z : Fin 8 =>
      let zone := s.sph.zones[z]
      { zone with heaters := Vector.ofFn fun n : Fin 3 =>
          if n.val < (zoneValues s z).stageCount then zone.heaters[n] else { on := false, minOn := none } } }

/-- The highest-numbered stage of the highest-numbered zone that has one on, if the count exceeds the cap (R125). -/
def dropOverCap (s : State) (p : Fin 8 × Fin 3) : State :=
  if (heatValues s).stageCap < electricCount s ∧ s.sph.zones[p.1].heaters[p.2].on = true then
    setZone s p.1 fun zone => { zone with heaters := upd zone.heaters p.2 fun _ => { on := false, minOn := none } }
  else s

/-- Every stage, from the highest-numbered of the highest-numbered zone down. -/
def stagesFromTop : List (Fin 8 × Fin 3) :=
  (List.finRange 8).reverse.flatMap fun z => (List.finRange 3).reverse.map fun n => (z, n)

/-- Spectator heating's part of a HEAT settle end in RUN, NIGHT_HOLD or FALLBACK, the values being in effect (R125). -/
def heatSettled (s : State) : State :=
  postStands (stagesFromTop.foldl dropOverCap (dropAboveCount (reformZones (fun _ => true) s)))

/-- The zones at the entry to NIGHT_HOLD (R137). STANDS waits for the hand-back of the pass that the posting brings;
where no demand changed no pass comes, and R136 forms it in this event (log 15). -/
def nightZonesOff (s : State) : State :=
  let before := s.sph.zones
  let s := { s with sph.zones := tabMap (fun zone => { zone.enter .off none none with raw := 0, demand := 0 }) before }
  match changedDemands before s.sph.zones with
  | [] => postStands s
  | demands => s.postHeat (.zones demands)

/-! ### Rows of the table -/

/-- Zone grants and row states as a pass hands them back, taken with the hand-out and STANDS (R121, R134 to R136). -/
def takeZoneGrants (s : State) (grants : Vector (Nat × RowState) 8) : State :=
  postStands (handOut { s with sph.zones := Vector.ofFn fun z : Fin 8 =>
    { s.sph.zones[z] with grant := grants[z].1, row := grants[z].2 } })

/-- ZONE_GRANT_HANDBACK: the oldest hand-back on its way is taken (R121). -/
def execZoneGrantHandback (s : State) : Host.Outcome State Fault Refusal :=
  match s.transit.zoneGrants with
  | [] => .next s
  | grants :: rest => .next (takeZoneGrants { s with transit.zoneGrants := rest } grants)

/-- The block that handed a near-ice input (R131). -/
def capPosterOf : CapInput → CapPoster
  | .fogCap _ => .fogWatch
  | .secondary _ => .fogWatch
  | .overBudget _ => .loadTable
  | .soft _ => .plant

/-- The input is kept as handed (R131). -/
def Sph.keep (x : Sph) : CapInput → Sph
  | .fogCap p => { x with fogCap := p }
  | .secondary on => { x with secondary := on }
  | .overBudget set => { x with overBudget := set }
  | .soft on => { x with soft := on }

/-- A near-ice input: kept, and from the entry to RUN on every near-ice zone's demand is formed again (R126, R131). -/
def takeCap (s : State) (c : CapInput) : State :=
  let s := { s with sph := s.sph.keep c }
  if running s then reformZones (fun z => (zoneValues s z).nearIce) s else s

/-- NEAR_ICE_CAP_INPUT: the oldest input of that block on its way is taken (R131). -/
def execNearIceCapInput (poster : CapPoster) (s : State) : Host.Outcome State Fault Refusal :=
  match takeFirst (fun c => capPosterOf c == poster) s.transit.caps with
  | none => .next s
  | some (c, rest) => .next (takeCap { s with transit.caps := rest } c)

/-- The zone a ZONE SET or ZONE READ names, 1 to 8 (R128). -/
def zoneNamed (items : List Item) : Fin 8 := Fin.ofNat 8 (natOf items 0x10 - 1)

/-- ZONE SET's reply: state, remembered state, target and demand after the request (R128). -/
def zoneSetReply (s : State) (z : Fin 8) : Answer :=
  let zone := s.sph.zones[z]
  doneWith [(0x10, ub 1 (zoneCode zone.state)), (0x11, optU 1 (zone.remembered.map zoneCode)),
    (0x12, optTemp zone.target), (0x13, ub 2 zone.demand)]

/-- ZONE SET is refused WRONG_STATE in NIGHT_HOLD (R128). -/
def zoneSet (act : Fin 8 → State → State) (items : List Item) (s : State) : State × Answer :=
  if s.ops.part = .nightHold then (s, plain .wrongState)
  else (act (zoneNamed items) s, zoneSetReply (act (zoneNamed items) s) (zoneNamed items))

/-- ZONE SET with mode OFF (R128). -/
def ownZoneOff (items : List Item) (s : State) : State × Answer := zoneSet (fun z s => setZoneState s z .off) items s

/-- ZONE SET with mode SETBACK (R128). -/
def ownZoneSetback (items : List Item) (s : State) : State × Answer :=
  zoneSet (fun z s => setZoneState s z .setback) items s

/-- ZONE SET with mode OCCUPIED: the target is replaced and the entry test made (R128). -/
def ownZoneOccupied (items : List Item) (s : State) : State × Answer :=
  zoneSet (fun z s =>
    setZoneState (setZone s z fun zone => { zone with target := some (intOf items 0x12) }) z
      (entryTest s z (intOf items 0x12))) items s

/-- ZONE_SET_OFF (R128). -/
def execZoneSetOff (s : State) : Host.Outcome State Fault Refusal := takeRequest .zoneSetOff (owned ownZoneOff) s

/-- ZONE_SET_OCCUPIED (R128). -/
def execZoneSetOccupied (s : State) : Host.Outcome State Fault Refusal :=
  takeRequest .zoneSetOccupied (owned ownZoneOccupied) s

/-- ZONE_SET_SETBACK (R128). -/
def execZoneSetSetback (s : State) : Host.Outcome State Fault Refusal :=
  takeRequest .zoneSetSetback (owned ownZoneSetback) s

/-- PREHEAT_LIMIT_EXPIRY: a zone still in PREHEAT enters OCCUPIED (R128). -/
def execPreheatLimitExpiry (z : Fin 8) (s : State) : Host.Outcome State Fault Refusal :=
  if dueTimer s.sph.zones[z].preheat then
    .next (afterZone (setZone s z fun zone =>
      if zone.state = .preheat then zone.enter .occupied none none else { zone with preheat := none }) z false)
  else .next s

/-- MINIMUM_ON_EXPIRY: the stage's minimum on has passed and the hand-out is taken (R133, R135). -/
def execMinimumOnExpiry (z : Fin 8) (n : Fin 3) (s : State) : Host.Outcome State Fault Refusal :=
  if dueTimer s.sph.zones[z].heaters[n].minOn then
    .next (postStands (handOut (setZone s z fun zone =>
      { zone with heaters := upd zone.heaters n fun st => { st with minOn := none } })))
  else .next s

/-- ZONE READ's reply items (R138, log 11): three stage items whatever the zone's stage count (log 35), under an id of
their own behind the zone's figures, with which one bullet names them (log 43, DESIGN CHOICE). -/
def zoneReadItems (items : List Item) (s : State) : List (Nat × List Byte) :=
  let z := zoneNamed items
  let zone := s.sph.zones[z]
  let air := reading s .d z
  [(0x10, ub 1 (zoneCode zone.state) ++ optU 1 (zone.remembered.map zoneCode) ++ optTemp zone.target
      ++ flag (zoneValues s z).nearIce ++ sb 2 air.value ++ ub 1 (qualityCode air.quality)
      ++ ub 2 (leftTimer zone.preheat) ++ ub 2 zone.raw ++ ub 1 (zoneCap s z) ++ ub 2 zone.demand ++ ub 2 zone.grant
      ++ ub 1 (rowCode zone.row) ++ ub 2 (shortfall s z) ++ ub 1 (wantedCount s z))]
  ++ zone.heaters.toList.map (fun st => (0x11, flag st.on ++ ub 2 (leftTimer st.minOn)))
  ++ [(0x12, ub 1 (electricCount s) ++ ub 1 (heatValues s).stageCap ++ ub 1 s.sph.fogCap ++ flag s.sph.secondary
        ++ flag s.sph.overBudget ++ flag s.sph.soft ++ ub 2 s.sph.stands)]

/-- ZONE_READ (R138). -/
def execZoneRead (s : State) : Host.Outcome State Fault Refusal := takeRequest .zoneRead (reads zoneReadItems) s

end Sys2Proof.Machine
end

