-- ==== Sys2Proof/Machine/Condition.lean ====
section
/-! DEFINITION. The condition array (chapter 4): thresholds, the base-tick event, gates, the counting inputs and the
surge detector, and its rows of the table. The cells' own evaluation is in Cells.lean. -/

namespace Sys2Proof.Machine

open Sys2Proof

/-! ### Probe thresholds (R58, R59) -/

/-- The level a usable value gives a threshold (R59). -/
def thresholdLevel (t : ThresholdItems) (v : Int) (level : Bool) : Bool :=
  match t.direction with
  | .above => if t.limit < v then true else if v < t.limit - t.hysteresis then false else level
  | .below => if v < t.limit then true else if t.limit + t.hysteresis < v then false else level

/-- A threshold judged against its channel's record as it stands (R59). -/
def judgeThreshold (s : State) (th : Threshold) : Threshold :=
  match th.items with
  | none => th
  | some t =>
    match usableValue s (groupOfChannel t.channel) (placeOfChannel t.channel) with
    | none => th
    | some v => { th with active := thresholdLevel t v th.active }

/-- A threshold watches a channel of one of the groups. -/
def watches (groups : Group → Bool) (th : Threshold) : Bool :=
  match th.items with
  | none => false
  | some t => groups (groupOfChannel t.channel)

/-- A group update to the thresholds that watch the groups an event changed (R43, R59). -/
def thresholdsUpdate (s : State) (groups : Group → Bool) : State :=
  { s with cnd.thresholds := tabMap (fun th => if watches groups th then judgeThreshold s th else th) s.cnd.thresholds }

/-! ### Counting inputs, occupancy and surge (R72 to R74) -/

/-- A set counting input read at a base tick: its phase, and whether a pulse is counted (R72). -/
def inputStep (debounce : Nat) (phase : InputPhase) (high : Bool) : InputPhase × Bool :=
  if high then
    match phase with
    | .low => if debounce ≤ 1 then (.held, true) else (.rising 1, false)
    | .rising n => if debounce ≤ n + 1 then (.held, true) else (.rising (n + 1), false)
    | .held => (.held, false)
  else (.low, false)

/-- The most persons the occupancy counts. -/
def occupancyLimit : Nat := 30000

/-- The occupancy after the pulses counted at a base tick, ENTRY first (R73). -/
def countPersons (n : Nat) (entered left : Bool) : Nat :=
  let n := if entered then min occupancyLimit (n + 1) else n
  if left then n - 1 else n

/-- The surge list at a base tick (R74). -/
def surgeStep (c : CountSettings) (now : TickCount) (counted : Bool) (list : List TickCount) : List TickCount :=
  let kept := list.filter fun t => decide ((now - t).toNat < c.surgeWindow)
  let joined := if counted then kept ++ [now] else kept
  if c.surgeCount + 1 < joined.length then joined.drop 1 else joined

/-- The counting inputs read at step 2: phases, occupancy and surge (R72, R73, R74). -/
def countInputs (c : Cnd) (now : TickCount) (entry exit : Bool) : Cnd :=
  match c.settings with
  | none => { c with entryLevel := entry, exitLevel := exit }
  | some k =>
    let e := inputStep k.entryDebounce c.entryPhase entry
    let x := inputStep k.exitDebounce c.exitPhase exit
    let surge := surgeStep k now e.2 c.surge
    { c with
      entryLevel := entry, exitLevel := exit, entryPhase := e.1, exitPhase := x.1,
      occupancy := countPersons c.occupancy e.2 x.2, surge := surge,
      crowdSurge := decide (k.surgeCount < surge.length) }

/-! ### The base-tick event (R56, R70) -/

/-- Step 1: clock events, the second divider, and the cells brought up to date. -/
def clockStep (s : State) : State :=
  let wraps := dividerWraps s
  { s with cnd.cells := evalCells s (tickClocks s wraps), cnd.divider := if wraps then 0 else s.cnd.divider + 1 }

/-- Step 2: the inputs read, a changed occupancy posted, the cells brought up to date. -/
def sampleStep (s : State) (fi : Vector Bool 8) (entry exit : Bool) : State :=
  let before := s.cnd.occupancy
  let s := { s with cnd := countInputs { s.cnd with fi := fi } s.tick entry exit }
  sync (if s.cnd.occupancy = before then s else s.postLoad (.occupancy s.cnd.occupancy))

/-- The level a gate latches (R70). -/
def gateInput (s : State) (g : Gate) : Bool :=
  match g.binding with
  | none => false
  | some k => s.cnd.cells[k].out

/-- Tick view and gate levels latched (R70). -/
def latch (s : State) : State :=
  { s with
    cnd.cells := tabMap (fun c => { c with tickView := c.out }) s.cnd.cells,
    cnd.gates := tabMap (fun g => { g with level := gateInput s g }) s.cnd.gates }

/-- A changed gate handed to its consumer with its new level (R70); the zone inhibit gates are taken together
(`zoneInhibits`). -/
def handGate (s : State) (g : Fin 14) : State :=
  let level := gateLevel s g
  match g.val with
  | 0 => resurfaceGate s level
  | 1 => fogSeenGate s level
  | 2 => hazeGate s level
  | 3 => strobeGate s level
  | 4 => doorOpenGate s level
  | 5 => boostGate s
  | _ => s

/-- Step 3: the latch, the changed gates handed on in ascending number, what a consumer forms at the end of the event
formed once, the cells brought up to date (R70, R132, R136, R149, log 9). -/
def latchStep (s : State) : State :=
  let before := s.cnd.gates
  let s := latch s
  let changed (g : Fin 14) : Bool := gateLevel s g != before[g].level
  let t := (places 14 changed).foldl handGate s
  sync (zoneInhibits (fogGatesDone (changed 1 || changed 4) t) fun z => changed (inhibitGate z))

/-- Step 1, unless the row of a completion has taken it at this tick (log 8). -/
def stepOne (s : State) : State := if s.cnd.clocksTaken then s else clockStep s

/-- BASE_TICK: the three steps of the base-tick event of this tick (R56). -/
def execBaseTick (fi : Vector Bool 8) (entry exit : Bool) (s : State) : Host.Outcome State Fault Refusal :=
  if s.cnd.baseDue then
    .next (latchStep (sampleStep { stepOne s with cnd.baseDue := false, cnd.clocksTaken := false } fi entry exit))
  else .next s

/-! ### Completions of a cell's count (R64 to R68, log 8) -/

/-- In step 1 of this tick's base-tick event the cell one below a cell issues a terminal event (R61, R63). -/
def chainsInto (s : State) (k : Fin 16) : Bool :=
  (((List.finRange 16).take k.val).foldl (evalAt s (tickClocks s (dividerWraps s))) (s.cnd.cells, false)).2

/-- The cell has a clock event of this tick before it: step 1 is still to be taken, and it clocks the cell (R56,
R63). -/
def clockPending (s : State) (k : Fin 16) : Bool :=
  s.cnd.baseDue && !s.cnd.clocksTaken
    && (tickClocks s (dividerWraps s) k || (cellClock s.cnd.cells[k].config == some .chain && chainsInto s k))

/-- Step 1 of this tick's base-tick event, every clock of it, taken by the row of a completion it brings; BASE_TICK goes
on from there (R56, log 8). -/
def clocksFirst (s : State) : State := { clockStep s with cnd.clocksTaken := true }

/-- The next clock event completes a DELAY cell's count with an edge pending (R64). -/
def delayCompletes (c : Cell) : Bool :=
  match c.config, c.phase with
  | .delay _ count _ _, .pending _ => decide (count ≤ c.n + 1)
  | _, _ => false

/-- The next clock event ends a ONESHOT cell's pulse (R65). -/
def oneshotCompletes (c : Cell) : Bool :=
  match c.config, c.phase with
  | .oneshot _ count _ _, .pulse => decide (count ≤ c.n + 1)
  | _, _ => false

/-- The next clock event closes a RATE cell's window (R66). -/
def rateCompletes (c : Cell) : Bool :=
  match c.config, c.phase with
  | .rate _ count _ _, .open => decide (count ≤ c.n + 1)
  | _, _ => false

/-- The next clock event ends an EDGE cell's pulse (R67). -/
def edgeCompletes (c : Cell) : Bool :=
  match c.config, c.phase with
  | .edge _ _ _, .pulse => true
  | _, _ => false

/-- The next clock event is terminal for a COUNT cell (R68). -/
def countCompletes (c : Cell) : Bool :=
  match c.config with
  | .count _ _ count _ => !c.seen1 && !c.seen2 && decide (count ≤ c.n + 1)
  | _ => false

/-- DELAY_COMPLETE: the delayed edge reaches the output with a terminal event (R64). -/
def execDelayComplete (k : Fin 16) (s : State) : Host.Outcome State Fault Refusal :=
  if clockPending s k && delayCompletes s.cnd.cells[k] then .next (clocksFirst s) else .next s

/-- ONESHOT_PULSE_END (R65). -/
def execOneshotPulseEnd (k : Fin 16) (s : State) : Host.Outcome State Fault Refusal :=
  if clockPending s k && oneshotCompletes s.cnd.cells[k] then .next (clocksFirst s) else .next s

/-- RATE_WINDOW_CLOSE (R66). -/
def execRateWindowClose (k : Fin 16) (s : State) : Host.Outcome State Fault Refusal :=
  if clockPending s k && rateCompletes s.cnd.cells[k] then .next (clocksFirst s) else .next s

/-- EDGE_PULSE_END (R67). -/
def execEdgePulseEnd (k : Fin 16) (s : State) : Host.Outcome State Fault Refusal :=
  if clockPending s k && edgeCompletes s.cnd.cells[k] then .next (clocksFirst s) else .next s

/-- COUNT_TERMINAL (R68). -/
def execCountTerminal (k : Fin 16) (s : State) : Host.Outcome State Fault Refusal :=
  if clockPending s k && countCompletes s.cnd.cells[k] then .next (clocksFirst s) else .next s

/-! ### CELL SET and CELL READ (R60, R69) -/

/-- The source a slot item names (R55). -/
def slotOfItem (items : List Item) (id : Nat) : Fin 45 := Fin.ofNat 45 (natOf items id)

/-- The mode and items a CELL SET gives the cell (R60). -/
def cellConfigOf (items : List Item) : CellConfig :=
  let count := natOf items 0x16
  let clock := clockOf (natOf items 0x17)
  let edge := edgeOf (natOf items 0x18)
  match natOf items 0x11 with
  | 0 => .none
  | 1 => .table (slotOfItem items 0x12) (slotOfItem items 0x13) (slotOfItem items 0x14)
      (BitVec.ofNat 8 (natOf items 0x15))
  | 2 => .delay (slotOfItem items 0x12) count clock edge
  | 3 => .oneshot (slotOfItem items 0x12) count clock edge
  | 4 => .rate (slotOfItem items 0x12) count clock edge
  | 5 => .edge (slotOfItem items 0x12) clock edge
  | _ => .count (slotOfItem items 0x13) (slotOfItem items 0x14) count clock

/-- A cell set afresh: output inactive, timer idle, each slot's level as its source stands in the cell's view (R60). -/
def freshCell (s : State) (k : Fin 16) (config : CellConfig) : Cell :=
  let slots := cellSlots config
  let see := viewLevel s s.cnd.cells k
  { s.cnd.cells[k] with
    config := config, out := false, phase := .idle, n := 0, seen0 := see slots.1, seen1 := see slots.2.1,
    seen2 := see slots.2.2 }

/-- The cell a request names. -/
def cellNamed (items : List Item) : Fin 16 := Fin.ofNat 16 (natOf items 0x10)

/-- CELL SET (R60): the cell is set afresh, a TABLE cell evaluated and the output's edge handed on. -/
def ownCellSet (items : List Item) (s : State) : State × Answer :=
  let k := cellNamed items
  let config := cellConfigOf items
  (sync { s with cnd.cells := upd s.cnd.cells k fun _ => freshCell s k config }, plain .done)

/-- CELL_SET (R60). -/
def execCellSet (s : State) : Host.Outcome State Fault Refusal := takeRequest .cellSet (owned ownCellSet) s

/-- The stored items of a cell, each of one length whatever the mode; a slot not used is FALSE (R60, R174, log 11). -/
def configBytes (c : CellConfig) : List Byte :=
  let slots := cellSlots c
  let count : Option Nat :=
    match c with
    | .none | .table .. | .edge .. => none
    | .delay _ n _ _ | .oneshot _ n _ _ | .rate _ n _ _ => some n
    | .count _ _ n _ => some n
  let outcomes : Option Nat := match c with | .table _ _ _ o => some o.toNat | _ => none
  let edge : Option EdgeSel :=
    match c with
    | .delay _ _ _ e | .oneshot _ _ _ e | .rate _ _ _ e => some e
    | .edge _ _ e => some e
    | .none | .table .. | .count .. => none
  ub 1 (modeCode c) ++ ub 1 slots.1.val ++ ub 1 slots.2.1.val ++ ub 1 slots.2.2.val ++ optU 1 outcomes
    ++ optU 2 count ++ optU 1 ((cellClock c).map clockCode) ++ optU 1 (edge.map edgeCode)

/-- The levels a cell last saw, one per slot its mode uses (R69). -/
def usedLevels (c : Cell) : List Bool :=
  match c.config with
  | .none => []
  | .table .. => [c.seen0, c.seen1, c.seen2]
  | .delay .. | .oneshot .. | .rate .. | .edge .. => [c.seen0]
  | .count .. => [c.seen1, c.seen2]

/-- The phase code of a timer cell, none for NONE and TABLE (R69, R176, log 17). -/
def phaseCode (c : Cell) : Option Nat :=
  match c.config with
  | .none | .table .. => none
  | .count .. => some (if c.n = 0 then 0 else 4)
  | .delay .. | .oneshot .. | .rate .. | .edge .. =>
    match c.phase with
    | .idle => some 0
    | .pending _ => some 1
    | .pulse => some 2
    | .open => some 3

/-- CELL READ's reply items (R69). That the levels of FI0 to FI7, of PT0 to PT7 and of the gates stand one item per
member, in member order and under one id a set, is the model's reading of R174, whose list of sets names none of the
three (DEDUCED, log 11). That the count so far is sent in 2 bytes, the length R178 gives CELL SET's count, beside
R174's 1 byte of a count, is the model's choice too, and so are the 2 bytes of the surge list's length (DEDUCED, log
11). -/
def cellReadItems (items : List Item) (s : State) : List (Nat × List Byte) :=
  let c := s.cnd.cells[cellNamed items]
  [(0x10, configBytes c.config), (0x11, flag c.out ++ flag c.tickView)]
  ++ (usedLevels c).map (fun b => (0x12, flag b))
  ++ [(0x13, optU 1 (phaseCode c) ++ optU 2 ((phaseCode c).map fun _ => c.n))]
  ++ s.cnd.fi.toList.map (fun b => (0x14, flag b))
  ++ s.cnd.thresholds.toList.map (fun t => (0x15, flag t.active))
  ++ s.cnd.gates.toList.map (fun g => (0x16, flag g.level))
  ++ [(0x17, ub 2 s.cnd.occupancy), (0x18, ub 2 s.cnd.surge.length), (0x19, flag s.cnd.crowdSurge)]

/-- CELL_READ (R69). -/
def execCellRead (s : State) : Host.Outcome State Fault Refusal := takeRequest .cellRead (reads cellReadItems) s

/-! ### THRESHOLD SET, GATE BIND, COUNTER SET, OCCUPANCY SET -/

/-- The items a THRESHOLD SET gives, or none with the index alone (R58). -/
def thresholdItemsOf (items : List Item) : Option ThresholdItems :=
  if countOf items 0x11 = 0 then none
  else some { channel := Fin.ofNat 40 (natOf items 0x11), limit := intOf items 0x12,
              direction := directionOf (natOf items 0x13), hysteresis := intOf items 0x14 }

/-- THRESHOLD SET (R58): set or unset, inactive, then judged at once. -/
def ownThresholdSet (items : List Item) (s : State) : State × Answer :=
  let i : Fin 8 := Fin.ofNat 8 (natOf items 0x10)
  let fresh := judgeThreshold s { items := thresholdItemsOf items, active := false }
  (sync { s with cnd.thresholds := upd s.cnd.thresholds i fun _ => fresh }, doneWith [(0x10, flag fresh.active)])

/-- THRESHOLD_SET (R58). -/
def execThresholdSet (s : State) : Host.Outcome State Fault Refusal :=
  takeRequest .thresholdSet (owned ownThresholdSet) s

/-- GATE BIND (R71): the latched level does not change at the request. -/
def ownGateBind (items : List Item) (s : State) : State × Answer :=
  let g : Fin 14 := Fin.ofNat 14 (natOf items 0x10)
  let cell : Option (Fin 16) := (valueOf items 0x11).map fun v => Fin.ofNat 16 v.toNat
  ({ s with cnd.gates := upd s.cnd.gates g fun x => { x with binding := cell } },
   doneWith [(0x10, flag (gateLevel s g))])

/-- GATE_BIND (R71). -/
def execGateBind (s : State) : Host.Outcome State Fault Refusal := takeRequest .gateBind (owned ownGateBind) s

/-- The phase of an input when its settings arrive (R72). -/
def settledPhase (level : Bool) : InputPhase := if level then .held else .low

/-- COUNTER SET (R72). -/
def ownCounterSet (items : List Item) (s : State) : State × Answer :=
  let k : CountSettings :=
    { entryDebounce := natOf items 0x10, exitDebounce := natOf items 0x11, surgeCount := natOf items 0x12,
      surgeWindow := natOf items 0x13 }
  (sync { s with
    cnd.settings := some k, cnd.entryPhase := settledPhase s.cnd.entryLevel,
    cnd.exitPhase := settledPhase s.cnd.exitLevel, cnd.surge := [], cnd.crowdSurge := false },
   plain .done)

/-- COUNTER_SET (R72). -/
def execCounterSet (s : State) : Host.Outcome State Fault Refusal := takeRequest .counterSet (owned ownCounterSet) s

/-- OCCUPANCY SET (R73): the reply carries the occupancy before the request. -/
def ownOccupancySet (items : List Item) (s : State) : State × Answer :=
  let n := natOf items 0x10
  let t := { s with cnd.occupancy := n }
  (if n = s.cnd.occupancy then t else t.postLoad (.occupancy n), doneWith [(0x10, ub 2 s.cnd.occupancy)])

/-- OCCUPANCY_SET (R73). -/
def execOccupancySet (s : State) : Host.Outcome State Fault Refusal :=
  takeRequest .occupancySet (owned ownOccupancySet) s

end Sys2Proof.Machine
end

