-- ==== Sys2Proof/Machine/Scanner.lean ====
section
/-! DEFINITION. The probe scanner (chapter 3): schedules in effect, samples, staleness, the sweep step, substitution,
group updates to the consumers, and its rows of the table. -/

namespace Sys2Proof.Machine

open Sys2Proof

/-! ### Schedules in effect (R28, R39) -/

/-- The night factor in force: the PLANT value in NIGHT_HOLD, 1 outside it (R28). -/
def nightFactor (s : State) : Nat := if s.ops.part = .nightHold then (plantValues s).night else 1

/-- A group's schedule in effect, if it has one. -/
def scheduleInEffect (s : State) (g : Group) : Option Schedule := s.prb[groupIdx g].schedule

/-- The period of the group's schedule (R39); 0 while the group has none, when nothing loads it. -/
def profilePeriod (s : State) (g : Group) : Nat := ((scheduleInEffect s g).map Schedule.period).getD 0

/-- The period in effect at a wake: scaled at night (R28, R39). -/
def effectivePeriod (s : State) (g : Group) : Nat := profilePeriod s g * nightFactor s

/-- The warm-up in effect (R39). -/
def effectiveWarmUp (s : State) (g : Group) : Nat := ((scheduleInEffect s g).map Schedule.warmUp).getD 0

/-- The stale limit in effect: scaled at night and limited to 65535 (R28). -/
def effectiveStale (s : State) (g : Group) : Option Nat :=
  (scheduleInEffect s g).map fun x => min 65535 (x.stale * nightFactor s)

/-- A channel is enabled in its group's schedule in effect (R39). -/
def enabled (s : State) (g : Group) (k : Fin 8) : Bool :=
  match scheduleInEffect s g with
  | none => false
  | some x => x.mask.getLsbD k.val

/-- A channel is fit to sample: enabled and PASSED (R38). -/
def fitToSample (s : State) (g : Group) (k : Fin 8) : Bool := enabled s g k && (reading s g k).mark == .passed

/-! ### Records and notices (R43, R45) -/

/-- A quality whose entry or leaving is a probe fault (R45). -/
def faulty (q : Quality) : Bool := q == .stale || q == .range || q == .absent

/-- The change of quality posts PROBE_FAULT (R45). -/
def faultChange (old new : Quality) : Bool := old != new && (faulty old || faulty new)

/-- The number of a channel of a group (R36). -/
def channelNumber (g : Group) (k : Fin 8) : Nat := 8 * (groupIdx g).val + k.val

/-- The PROBE_FAULT notices of an event, in ascending channel order (R45). -/
def postFaults (s : State) (g : Group) (before : Vector Channel 8) : State :=
  (List.finRange 8).foldl (fun s k =>
    let new := (reading s g k).quality
    if faultChange before[k].quality new then
      s.post .probeFault (channelNumber g k) (qualityCode new) (qualityCode before[k].quality)
    else s) s

/-- The records of a group replaced, channel by channel, with the notices of the changes (R45). -/
def setRecords (s : State) (g : Group) (f : Fin 8 → Channel → Channel) : State :=
  let before := s.prb[groupIdx g].chans
  let s := setGroup s g fun r => { r with chans := Vector.ofFn fun k : Fin 8 => f k r.chans[k] }
  postFaults s g before

/-- The updates of one event that changed records of some groups: to the thresholds that watch them, then one to each
consumer job (R36, R43, log 38). -/
def passUpdates (s : State) (changed : Group → Bool) : State :=
  let s := thresholdsUpdate s changed
  let s := plantUpdate (changed .a) (changed .c) s
  let s := fogUpdate (changed .b) (changed .e) s
  if changed .d then groupDUpdate s else s

/-- The updates of an event that changed records of one group (R43). -/
def groupUpdate (s : State) (g : Group) : State := passUpdates s fun h => h == g

/-- The records of every group replaced in one event: all of them first, then the notices in ascending channel order
(R43, R45). -/
def setAllRecords (s : State) (f : Group → Fin 8 → Channel → Channel) : State :=
  let before := s.prb
  let s := allGroups.foldl (fun s g =>
    setGroup s g fun r => { r with chans := Vector.ofFn fun k : Fin 8 => f g k r.chans[k] }) s
  allGroups.foldl (fun s g => postFaults s g before[groupIdx g].chans) s

/-! ### Staleness (R44) -/

/-- A GOOD record older than the stale limit in effect. -/
def overStale (s : State) (g : Group) (c : Channel) : Bool :=
  c.quality == .good &&
  match effectiveStale s g with
  | none => false
  | some limit => decide (limit < c.age)

/-- Some record of the group is to become STALE (R44). -/
def staleDue (s : State) (g : Group) : Bool := anyOf 8 fun k => overStale s g (reading s g k)

/-- A record that exceeds the stale limit in effect becomes STALE (R44). -/
def staleChannel (s : State) (g : Group) (c : Channel) : Channel :=
  if overStale s g c then { c with quality := .stale } else c

/-- The records of a group that exceed the stale limit become STALE, with one group update (R43, R44). -/
def judgeStale (s : State) (g : Group) : State :=
  if staleDue s g then groupUpdate (setRecords s g fun _ c => staleChannel s g c) g else s

/-- The records of every group that exceed their stale limits become STALE in one event (R43, R44, R45). -/
def judgeAllStale (s : State) : State :=
  passUpdates (setAllRecords s fun g _ c => staleChannel s g c) (staleDue s)

/-! ### Wakes and samples (R41, R42, R54) -/

/-- A group enters WAKING: its switch on, period and wake timers loaded (R41, R53). -/
def enterWaking (s : State) (g : Group) : State :=
  setGroup s g fun r => { r with
    state := .waking, period := some (effectivePeriod s g), wake := some (effectiveWarmUp s g), subLimit := none }

/-- A record as an ordinary sample leaves it (R42, R54). -/
def sampleChannel (s : State) (g : Group) (samples : Vector Int 8) (k : Fin 8) (c : Channel) : Channel :=
  if fitToSample s g k then
    if inRange g k.val samples[k] then { c with value := samples[k], age := 0, quality := .good }
    else { c with quality := .range }
  else { c with quality := .absent }

/-- PERIOD_EXPIRY: an ASLEEP group wakes; one already awake keeps its wake, its period timer loaded again (R41, log 18). -/
def execPeriodExpiry (g : Group) (s : State) : Host.Outcome State Fault Refusal :=
  if dueTimer s.prb[groupIdx g].period then
    match s.prb[groupIdx g].state with
    | .asleep => .next (enterWaking s g)
    | .waking => .next (setGroup s g fun r => { r with period := some (effectivePeriod s g) })
    | .calibrating | .substituted => .next s
  else .next s

/-- GROUP_SAMPLE: the group is sampled in one event and returns to ASLEEP (R42). -/
def execGroupSample (g : Group) (samples : Vector Int 8) (s : State) : Host.Outcome State Fault Refusal :=
  if s.prb[groupIdx g].state = .waking ∧ dueTimer s.prb[groupIdx g].wake = true then
    let s1 := setGroup s g fun r => { r with state := .asleep, wake := none }
    .next (sync (groupUpdate (setRecords s1 g (sampleChannel s g samples)) g))
  else .next s

/-- RECORD_STALE: the GOOD records past the stale limit become STALE (R44). -/
def execRecordStale (g : Group) (s : State) : Host.Outcome State Fault Refusal := .next (sync (judgeStale s g))

/-! ### The sweep step (R47, R48) -/

/-- A group's sweep step begins (R47). -/
def beginSweepStep (s : State) (g : Group) : State :=
  setGroup s g fun r => { r with
    state := .calibrating, period := none, wake := some (effectiveWarmUp s g), second := none, held := none }

/-- FIRST_SWEEP_SAMPLE: the sample is held inside the scanner for one tick (R48). -/
def execFirstSweepSample (g : Group) (samples : Vector Int 8) (s : State) : Host.Outcome State Fault Refusal :=
  if s.prb[groupIdx g].state = .calibrating ∧ dueTimer s.prb[groupIdx g].wake = true then
    .next (setGroup s g fun r => { r with wake := none, second := some 1, held := some samples })
  else .next s

/-- Two sweep samples of a channel pass: both in range, 0.20 °C apart or less (R48). -/
def sweepPasses (g : Group) (k : Fin 8) (x y : Int) : Bool :=
  inRange g k.val x && inRange g k.val y && decide ((x - y).natAbs ≤ 20)

/-- A record as the second sweep sample leaves it (R48). -/
def sweepChannel (s : State) (g : Group) (x y : Vector Int 8) (k : Fin 8) (c : Channel) : Channel :=
  if !enabled s g k then { c with mark := .uncal, quality := .absent }
  else if sweepPasses g k x[k] y[k] then { value := y[k], age := 0, quality := .good, mark := .passed }
  else { c with mark := .failed, quality := .absent }

/-- The enabled channels that fail the sweep (R25, R48). -/
def failedChannels (s : State) (g : Group) (x y : Vector Int 8) : Nat :=
  (places 8 fun k => enabled s g k && !sweepPasses g k x[k] y[k]).length

/-- The second sweep sample: channels judged, the group asleep with its period timer loaded, one group update (R48). The
period is the profile's, a scaled one applying from the next wake (R28, log 37). -/
def judgeSweep (s : State) (g : Group) (x y : Vector Int 8) : State :=
  let s1 := setGroup s g fun r => { r with
    state := .asleep, period := some (profilePeriod s g), second := none, held := none }
  groupUpdate (setRecords s1 g (sweepChannel s g x y)) g

/-! ### Settle end (R39, R46) -/

/-- A record as a new enable mask leaves it: a channel it disables becomes UNCAL and ABSENT (R46). -/
def disableChannel (was now : Bool) (c : Channel) : Channel :=
  if was && !now then { c with mark := .uncal, quality := .absent } else c

/-- A channel enabled in a schedule that may not exist. -/
def enabledIn (x : Option Schedule) (k : Fin 8) : Bool :=
  match x with
  | none => false
  | some x => x.mask.getLsbD k.val

/-- The event changed a quality in the group. -/
def qualityChanged (s : State) (g : Group) (before : Vector Channel 8) : Bool :=
  anyOf 8 fun k => (reading s g k).quality != before[k].quality

/-- The schedules a settle end brings, in effect at once (R39). -/
def giveSchedules (s : State) (schedules : List (Group × Schedule)) : State :=
  schedules.foldl (fun s x => setGroup s x.1 fun r => { r with schedule := some x.2 }) s

/-- The stale limit of a group falls, by a new schedule or a new night factor (R28, R44). -/
def limitFalls (was now : State) (g : Group) : Bool :=
  match effectiveStale was g, effectiveStale now g with
  | _, none => false
  | none, some _ => true
  | some old, some new => decide (new < old)

/-- A record as a settle end leaves it: disabled by the new mask (R46), and judged against a stale limit that falls
(R44). `was` is the state before the settle end, `now` has the new values and schedules. -/
def settleChannel (was now : State) (g : Group) (k : Fin 8) (c : Channel) : Channel :=
  let c := disableChannel (enabledIn (scheduleInEffect was g) k) (enabledIn (scheduleInEffect now g) k) c
  if limitFalls was now g then staleChannel now g c else c

/-- The updates of a settle end. A FOG settle end changes records of groups B and E alone: its spreads are formed here,
and weakness, starve and outputs are left to the fog watch's own actions of the event (R43, R140, R149). -/
def settleUpdates (p : ProfileKind) (s : State) (changed : Group → Bool) : State :=
  match p with
  | .fog => fogJudgements (changed .b) false (thresholdsUpdate s changed)
  | .plant | .heat | .light => passUpdates s changed

/-- The new schedules in effect, the records of every group set in one event, and its updates (R28, R39, R43 to R46). -/
def takeSchedules (was s : State) (p : ProfileKind) (schedules : List (Group × Schedule)) : State :=
  let now := giveSchedules s schedules
  let set := setAllRecords now (settleChannel was now)
  settleUpdates p set fun g => qualityChanged set g was.prb[groupIdx g].chans

/-! ### Requests (R49 to R53) -/

/-- The channel in place i of a batch (R49). -/
def batchChannel (start order : Nat) (i : Fin 8) : Fin 8 :=
  if order = 0 then Fin.ofNat 8 (start + i.val) else Fin.ofNat 8 (start ^^^ i.val)

/-- A reading record of 6 bytes (R177). -/
def recordBytes (k : Fin 8) (c : Channel) : List Byte :=
  ub 1 k.val ++ sb 2 c.value ++ ub 1 (qualityCode c.quality) ++ ub 2 c.age

/-- BATCH READ's reply items (R49, R177, log 11). -/
def batchReadItems (items : List Item) (s : State) : List (Nat × List Byte) :=
  let g := groupOf (natOf items 0x10)
  let r := s.prb[groupIdx g]
  (List.finRange 8).map (fun i =>
    let k := batchChannel (natOf items 0x11) (natOf items 0x12) i
    (0x10, recordBytes k (reading s g k)))
  ++ [(0x11, ub 1 (groupStateCode r.state)),
      (0x12, optU 2 (if r.state = .substituted then some (leftTimer r.subLimit) else none))]

/-- BATCH_READ (R49). -/
def execBatchRead (s : State) : Host.Outcome State Fault Refusal := takeRequest .batchRead (reads batchReadItems) s

/-- The value a SUBSTITUTE gives a channel. -/
def substituteValue (items : List Item) (k : Fin 8) : Int := ((valuesOf items 0x11)[k.val]?).getD 0

/-- An accepted SUBSTITUTE (R51). -/
def substituteGroup (s : State) (g : Group) (items : List Item) : State :=
  let s := setGroup s g fun r => { r with
    state := .substituted, period := none, wake := none, subLimit := some (natOf items 0x12) }
  groupUpdate (setRecords s g fun k c =>
    { c with value := substituteValue items k, quality := .substituted, age := 0 }) g

/-- SUBSTITUTE: the three checks in order, then its effect (R50, R51). -/
def ownSubstitute (items : List Item) (s : State) : State × Answer :=
  let g := groupOf (natOf items 0x10)
  if s.ops.part ≠ .run ∧ s.ops.part ≠ .fallback then (s, plain .wrongState)
  else if s.plt.ice ≠ .hold ∧ s.plt.ice ≠ .practice then (s, plain .wrongState)
  else if s.ops.sweepList.contains g then (s, plain .wrongState)
  else (sync (substituteGroup s g items), plain .done)

/-- SUBSTITUTE (R50). -/
def execSubstitute (s : State) : Host.Outcome State Fault Refusal := takeRequest .substitute (owned ownSubstitute) s

/-- SUBSTITUTE END (R53). -/
def ownSubstituteEnd (items : List Item) (s : State) : State × Answer :=
  let g := groupOf (natOf items 0x10)
  if s.prb[groupIdx g].state = .substituted then (enterWaking s g, plain .done) else (s, plain .wrongState)

/-- SUBSTITUTE_END (R53). -/
def execSubstituteEnd (s : State) : Host.Outcome State Fault Refusal :=
  takeRequest .substituteEnd (owned ownSubstituteEnd) s

/-- SUBSTITUTION_LIMIT_EXPIRY: substitution ends (R53). -/
def execSubstitutionLimitExpiry (g : Group) (s : State) : Host.Outcome State Fault Refusal :=
  if s.prb[groupIdx g].state = .substituted ∧ dueTimer s.prb[groupIdx g].subLimit = true then .next (enterWaking s g)
  else .next s

end Sys2Proof.Machine
end

