-- ==== Sys2Proof/Machine/Operating.lean ====
section
/-! DEFINITION. The operating state controller (chapter 2): profiles and settling, calibration and the entry to RUN, night
hold, host silence and fallback, and its rows of the table. -/

namespace Sys2Proof.Machine

open Sys2Proof

/-! ### Entry to RUN and the sweep (R24 to R26, R47) -/

/-- CALIBRATION_DONE, and both counts set to 0 (R25). -/
def postCalibration (s : State) (swept : Nat) : State :=
  ({ s with ops.failedCount := 0, ops.sweptCount := 0 }).post .calibrationDone 0 s.ops.failedCount swept

/-- The first entry to RUN: each job forms and posts its state, the silence timer starts, CALIBRATION_DONE is posted
(R25, R26, R30, R77, R126, R141, log 21). -/
def enterRun (s : State) : State :=
  let s := { s with ops.part := .run }
  postCalibration (restartSilence (fogEnterRun (plantEnterRun s))) 5

/-- The sweep list is empty: at start-up the part enters RUN once the warm-up is over too; otherwise the sweep is
complete (R24, R25). -/
def sweepFinished (s : State) : State :=
  if s.ops.part = .calibrating then (if s.ops.warmUp.isNone then enterRun s else s)
  else postCalibration s s.ops.sweptCount

/-- A group's sweep step has ended: counted, and the next step begins in the same event (R24, R25). -/
def stepEnded (s : State) (g : Group) (failed : Nat) : State :=
  let s := { s with
    ops.sweepList := s.ops.sweepList.filter fun x => x != g, ops.failedCount := s.ops.failedCount + failed,
    ops.sweptCount := s.ops.sweptCount + 1 }
  match s.ops.sweepList with
  | [] => sweepFinished s
  | next :: _ => beginSweepStep s next

/-- SECOND_SWEEP_SAMPLE: one tick after the first, the channels are judged, the group sleeps and its step ends (R48). -/
def execSecondSweepSample (g : Group) (samples : Vector Int 8) (s : State) : Host.Outcome State Fault Refusal :=
  match s.prb[groupIdx g].held with
  | none => .next s
  | some first =>
    if s.prb[groupIdx g].state = .calibrating ∧ dueTimer s.prb[groupIdx g].second = true then
      .next (sync (stepEnded (judgeSweep s g first samples) g (failedChannels s g first samples)))
    else .next s

/-- Groups appended to the sweep list but those it holds; an empty list begins its head's step (R25). -/
def appendSweep (s : State) (groups : List Group) : State :=
  let list := s.ops.sweepList ++ groups.filter fun g => !s.ops.sweepList.contains g
  let t := { s with ops.sweepList := list }
  match s.ops.sweepList, list with
  | [], g :: _ => beginSweepStep t g
  | _, _ => t

/-- The calibration warm-up of the measurement front end (R24). -/
def warmUpTicks : Nat := 300

/-- CALIBRATE (R24, R25). -/
def ownCalibrate (items : List Item) (s : State) : State × Answer :=
  let groups := (valuesOf items 0x10).map fun v => groupOf v.toNat
  match s.ops.part with
  | .configured =>
    (appendSweep { s with ops.part := .calibrating, ops.warmUp := some warmUpTicks, ops.sweepList := [] } allGroups,
     plain .accepted)
  | .run | .fallback =>
    if groups.isEmpty then (s, badField 0x10)
    else if groups.any (fun g => s.prb[groupIdx g].state == .substituted) then (s, plain .wrongState)
    else (appendSweep s groups, plain .accepted)
  | .unconfigured | .configuring | .calibrating | .nightHold => (s, plain .wrongState)

/-- CALIBRATE (R24). -/
def execCalibrate (s : State) : Host.Outcome State Fault Refusal := takeRequest .calibrate (owned ownCalibrate) s

/-- WARM_UP_EXPIRY: the part enters RUN if the sweep is finished (R24). -/
def execWarmUpExpiry (s : State) : Host.Outcome State Fault Refusal :=
  if dueTimer s.ops.warmUp then
    let s := { s with ops.warmUp := none }
    if s.ops.part = .calibrating ∧ s.ops.sweepList = [] then .next (sync (enterRun s)) else .next s
  else .next s

/-! ### Profile loads (R18 to R22) -/

/-- The status of the profile before another in the order PLANT, FOG, HEAT, LIGHT is not ABSENT (R19). -/
def predecessorsHere (o : Ops) : ProfileKind → Bool
  | .plant => true
  | .fog => o.plant.status != .absent
  | .heat => o.plant.status != .absent && o.fog.status != .absent
  | .light => o.plant.status != .absent && o.fog.status != .absent && o.heat.status != .absent

/-- A job is quiescent (R22). -/
def quiescent (s : State) : ProfileKind → Bool
  | .plant =>
    s.plt.ice == .hold
      && allOf 6 fun n => s.plt.stages[n].state != .starting && s.plt.stages[n].state != .stopping
  | .fog => s.fgw.level == .clear && !anySubstituted s
  | .heat => allOf 8 fun z => s.sph.zones[z].state == .off
  | .light => s.evl.play == .idle && s.evl.posted.isEmpty && s.evl.deferred.isNone

/-- The part state and job state permit a load (R19, R22). -/
def loadPermitted (s : State) (p : ProfileKind) : Bool :=
  match s.ops.part with
  | .unconfigured | .configuring => predecessorsHere s.ops p
  | .configured => true
  | .calibrating => false
  | .run | .nightHold | .fallback => !anySubstituted s && quiescent s p

/-- The lowest item id of a profile that a load lacks (R18). -/
def lacking (p : ProfileKind) (items : List Item) : Option Nat :=
  ((profileItems p).find? fun sp => countOf items sp.id == 0).map ItemSpec.id

/-- The ticks of settling (R21). -/
def settleTicks : Nat := 50

/-- The ticks of the profile spacing timer (R20). -/
def spacingTicks : Nat := 20

/-- An accepted load (R18). -/
def acceptLoad (s : State) (p : ProfileKind) (items : List Item) : State :=
  let slot : ProfileSlot :=
    { status := .settling, items := items.filter fun i => i.id != 0x01, settle := some settleTicks }
  let o := { setSlot s.ops p slot with spacing := some spacingTicks }
  { s with ops := { o with part := if running s then s.ops.part else .configuring } }

/-- PROFILE LOAD: INCOMPLETE, WRONG_STATE, TOO_SOON in this order, or accepted (R18). -/
def ownProfileLoad (items : List Item) (s : State) : State × Answer :=
  let p := profileOf (natOf items 0x01)
  match lacking p items with
  | some id => (s, { outcome := .incomplete, items := [(0x10, ub 1 id)] })
  | none =>
    if !loadPermitted s p then (s, plain .wrongState)
    else if s.ops.spacing.isSome then (s, plain .tooSoon)
    else (acceptLoad s p items, plain .done)

/-- PROFILE_LOAD (R18). -/
def execProfileLoad (s : State) : Host.Outcome State Fault Refusal := takeRequest .profileLoad (owned ownProfileLoad) s

/-- PROFILE READ: NOT_CONFIGURED when ABSENT, else the stored items and the status (R23, R178, log 11). -/
def ownProfileRead (items : List Item) (s : State) : State × Answer :=
  let p := profileOf (natOf items 0x01)
  let slot := slotOf s.ops p
  if slot.status = .absent then (s, plain .notConfigured)
  else
    (s, doneWith ((profileItems p).map (fun sp => (sp.id, storedBytes sp (intOf slot.items sp.id)))
      ++ [(0x02, ub 1 (statusCode slot.status))]))

/-- PROFILE_READ (R23). -/
def execProfileRead (s : State) : Host.Outcome State Fault Refusal := takeRequest .profileRead (owned ownProfileRead) s

/-- SPACING_EXPIRY (R20). -/
def execSpacingExpiry (s : State) : Host.Outcome State Fault Refusal :=
  if dueTimer s.ops.spacing then .next { s with ops.spacing := none } else .next s

/-! ### Settle end (R21) -/

/-- The stored items with the recalibrate item set to 0 (R25). -/
def clearRecalibrate (items : List Item) : List Item :=
  items.map fun i => if i.id = 0x63 then { i with val := 0 } else i

/-- The profile becomes LOADED and PROFILE_SETTLED is posted; four LOADED profiles make the part CONFIGURED (R21). -/
def markLoaded (s : State) (p : ProfileKind) : State :=
  let slot := slotOf s.ops p
  let items := if p = .plant then clearRecalibrate slot.items else slot.items
  let s := { s with ops := setSlot s.ops p { status := .loaded, items := items, settle := none } }
  let s := s.post .profileSettled (profileCode p) 0 0
  if s.ops.part = .configuring ∧ allLoaded s = true then { s with ops.part := .configured } else s

/-- The stored copy takes effect in its job (R21, R76, R125, R140, R154). -/
def takeValues (s : State) (p : ProfileKind) (items : List Item) : State :=
  match p with
  | .plant => { s with plt.profile := some (plantOf items) }
  | .fog => { s with fgw.profile := some (fogOf items) }
  | .heat => { s with sph.profile := some (heatOf items) }
  | .light => lightTakeValues s (lightOf items)

/-- The settle figures stored in the ice load table before RUN (R76, R104, log 27). -/
def storeSettleFigures (s : State) : State :=
  let p := plantValues s
  { s with ilt.crowdPer := some p.crowd, ilt.reserve := some p.reserve, ilt.exitMargin := some p.exitMargin }

/-- The job's own actions at its settle end (R76, R125, R140, R31). -/
def jobSettled (s : State) (p : ProfileKind) : State :=
  match p with
  | .plant => if running s then plantSettled s else storeSettleFigures s
  | .fog => if running s then fogSettled s else s
  | .heat => if running s then heatSettled s else s
  | .light =>
    if s.ops.fallbackWaiting then askFallback { s with ops.fallbackWaiting := false } else s

/-- The row maxima a settle end gives the heat allocation table (R112). -/
def maximaOf (s : State) : ProfileKind → List (Fin 11 × Nat)
  | .plant => [(0, (plantValues s).subfloorMax)]
  | .fog => [(1, (fogValues s).rows[3].desiccant)]
  | .heat => (List.finRange 8).map (fun z => (zoneRow z, (heatValues s).zones[z].max)) ++ [(10, (heatValues s).meltMax)]
  | .light => []

/-- The maxima handed on, with the pass of that event; LIGHT gives none (R112, R113). -/
def passMaxima (s : State) (p : ProfileKind) : State :=
  if p = .light then s else takeMaxima s (maximaOf s p)

/-- What a PLANT settle end does in the operating state controller: the silence timer afresh in RUN, and the sweep that
recalibrate asks for (R25, R30). -/
def plantHousekeeping (s : State) (recalibrate : Bool) : State :=
  let s := restartSilence s
  if recalibrate && running s then appendSweep s [.a, .c] else s

/-- The settle end of a profile (R21, log 21). -/
def settleEnd (s : State) (p : ProfileKind) : State :=
  let items := (slotOf s.ops p).items
  let was := s
  let s := takeValues (markLoaded s p) p items
  let s := passMaxima (jobSettled (takeSchedules was s p (schedulesOf p items)) p) p
  if p = .plant then plantHousekeeping s (natOf items 0x63 == 1) else s

/-- SETTLE_END: a settling timer has expired (R21). -/
def execSettleEnd (p : ProfileKind) (s : State) : Host.Outcome State Fault Refusal :=
  if dueTimer (slotOf s.ops p).settle then .next (sync (settleEnd s p)) else .next s

/-! ### Host silence and fallback (R30 to R32) -/

/-- The entry to FALLBACK (R31): the cue asked for, or left to the LIGHT settle end when LIGHT is SETTLING. -/
def enterFallback (s : State) : State :=
  let s := { s with ops.part := .fallback, ops.silence := none }
  if settling s .light then
    ({ s with ops.fallbackWaiting := true }).post .fallback (lightValues s).fallbackList (outcomeCode .settling)
      (lightValues s).fallbackCue
  else askFallback s

/-- HOST_SILENCE_EXPIRY (R31). -/
def execHostSilenceExpiry (s : State) : Host.Outcome State Fault Refusal :=
  if s.ops.part = .run ∧ dueTimer s.ops.silence = true then .next (sync (enterFallback s)) else .next s

/-- The part returns to RUN, the host-silence timer restarting with the full limit (R29, R30, R32). -/
def returnToRun (s : State) : State := restartSilence { s with ops.part := .run, ops.fallbackWaiting := false }

/-- RESUME (R32). -/
def ownResume (_items : List Item) (s : State) : State × Answer :=
  if s.ops.part = .fallback then (sync (returnToRun s), plain .done) else (s, plain .wrongState)

/-- RESUME (R32). -/
def execResume (s : State) : Host.Outcome State Fault Refusal := takeRequest .resume (owned ownResume) s

/-! ### Night hold (R27 to R29) -/

/-- NIGHT HOLD ENTER may be accepted (R27). -/
def nightPermitted (s : State) : Bool :=
  (s.ops.part == .run || s.ops.part == .fallback) && s.plt.ice == .hold && quiescent s .light
    && !(settling s .plant || settling s .fog || settling s .heat || settling s .light)

/-- The entry to NIGHT_HOLD (R27). -/
def enterNight (s : State) : State :=
  let s := { s with ops.part := .nightHold, ops.silence := none, ops.fallbackWaiting := false }
  nightLightingOff (nightZonesOff (retentionPurge s))

/-- NIGHT HOLD ENTER (R27). -/
def ownNightEnter (_items : List Item) (s : State) : State × Answer :=
  if nightPermitted s then (sync (enterNight s), plain .done) else (s, plain .wrongState)

/-- NIGHT_HOLD_ENTER (R27). -/
def execNightHoldEnter (s : State) : Host.Outcome State Fault Refusal :=
  takeRequest .nightHoldEnter (owned ownNightEnter) s

/-- NIGHT HOLD LEAVE (R29): the stale limits return at once. -/
def ownNightLeave (_items : List Item) (s : State) : State × Answer :=
  if s.ops.part = .nightHold then (sync (judgeAllStale (returnToRun s)), plain .done)
  else (s, plain .wrongState)

/-- NIGHT_HOLD_LEAVE (R29). -/
def execNightHoldLeave (s : State) : Host.Outcome State Fault Refusal :=
  takeRequest .nightHoldLeave (owned ownNightLeave) s

end Sys2Proof.Machine
end

