-- ==== Sys2Proof/Machine/Tick.lean ====
section
/-! DEFINITION. The passing of one tick (00_scope.md, "Time"; R1): what every block counts, and which events are due at
the present tick and hold the next one back (log 1). -/

namespace Sys2Proof.Machine

open Sys2Proof

/-! ### One tick, block by block -/

/-- The dispatcher's cue memory write counts its ticks (R160, R161). -/
def tickDispatcher : Dispatcher → Dispatcher
  | .free => .free
  | .storing tag c left => .storing tag c (left - 1)
  | .erasing tag list left => .erasing tag list (left - 1)
  | .halted => .halted

/-- LINK at a tick. -/
def tickLink (l : Link) : Link := { l with gap := tickTimer l.gap, dispatcher := tickDispatcher l.dispatcher }

/-- A profile's settling timer at a tick (R21). -/
def tickSlot (x : ProfileSlot) : ProfileSlot := { x with settle := tickTimer x.settle }

/-- OPS at a tick (R20, R21, R24, R30). -/
def tickOps (o : Ops) : Ops :=
  { o with
    plant := tickSlot o.plant, fog := tickSlot o.fog, heat := tickSlot o.heat, light := tickSlot o.light,
    spacing := tickTimer o.spacing, warmUp := tickTimer o.warmUp, silence := tickTimer o.silence }

/-- The age of a record grows by 1 up to 65535 (R37). -/
def tickChannel (c : Channel) : Channel := { c with age := min 65535 (c.age + 1) }

/-- A probe group at a tick (R37, R41, R48, R51). -/
def tickGroup (g : GroupRec) : GroupRec :=
  { g with
    period := tickTimer g.period, wake := tickTimer g.wake, second := tickTimer g.second,
    subLimit := tickTimer g.subLimit, chans := tabMap tickChannel g.chans }

/-- The minimum that a stage's state waits out, if it has one (R91). -/
def minimumOf (v : StageSettings) : StageState → Option Nat
  | .off => some v.minOff
  | .running => some v.minRun
  | .starting | .stopping | .lockedOut => none

/-- A stage at a tick: its ticks in state, up to 60000, and the passing of its minimum while the jobs run (R88, R91). -/
def tickStage (runs : Bool) (v : StageSettings) (st : Stage) : Stage :=
  let ticks := min 60000 (st.ticks + 1)
  { st with
    ticks := ticks, startTimer := tickTimer st.startTimer, stopTimer := tickTimer st.stopTimer,
    minDue := st.minDue || (runs && decide (st.ticks < ticks) && minimumOf v st.state == some ticks) }

/-- The elapsed ticks of RECOVER at a tick, up to the recover limit (R83). -/
def nextRecover (p : Plt) (limit : Nat) : Nat :=
  if p.ice = .recover ∧ p.recoverTicks < limit then p.recoverTicks + 1 else p.recoverTicks

/-- A whole second of RECOVER ends at a tick (R83, log 14). -/
def recoverSecondEnds (p : Plt) (limit : Nat) : Bool :=
  p.ice == .recover && decide (p.recoverTicks + 1 < limit) && decide ((p.recoverTicks + 1) % 100 = 0)

/-- PLT at a tick (R83 to R85, R88, R91 to R93); the confirm inputs are read at a tick that passes while the jobs run, so
first one tick after the entry to RUN (log 34). -/
def tickPlt (runs : Bool) (v : PlantProfile) (p : Plt) : Plt :=
  { p with
    softWatch := tickTimer p.softWatch, softClear := tickTimer p.softClear, recover := tickTimer p.recover,
    recoverTicks := nextRecover p v.recoverLimit, secondDue := p.secondDue || recoverSecondEnds p v.recoverLimit,
    stages := Vector.ofFn fun n : Fin 6 => tickStage runs v.stages[n] p.stages[n], confirmDue := runs }

/-- ILT at a tick (R107). -/
def tickIlt (t : Ilt) : Ilt := { t with dwell := tickTimer t.dwell, hold := tickTimer t.hold }

/-- A supplementary stage at a tick (R133). -/
def tickHeater (h : HeaterStage) : HeaterStage := { h with minOn := tickTimer h.minOn }

/-- A zone at a tick (R128, R133). -/
def tickZone (z : Zone) : Zone := { z with preheat := tickTimer z.preheat, heaters := tabMap tickHeater z.heaters }

/-- FGW at a tick (R144, R146, R151). -/
def tickFgw (f : Fgw) : Fgw :=
  { f with dwell := tickTimer f.dwell, blind := tickTimer f.blind, starve := tickTimer f.starve }

/-- A channel at a tick: its fade's elapsed ticks and its working level, the to-level at the last of them; the fade
then waits to be removed (R156, log 23). -/
def tickDimmer (d : Dimmer) : Dimmer :=
  match d.fade with
  | none => d
  | some f =>
    let g := { f with elapsed := min f.duration (f.elapsed + 1) }
    { d with fade := some g, working := fadeLevel g }

/-- A posted entry at a tick (R164). -/
def tickPosted (e : PostedCue) : PostedCue := { e with left := e.left - 1 }

/-- The deferred cue at a tick (R168). -/
def tickDeferred (d : DeferredCue) : DeferredCue := { d with left := d.left - 1, spent := d.spent + 1 }

/-- EVL at a tick (R156, R158, R163, R164, R168). -/
def tickEvl (e : Evl) : Evl :=
  { e with
    dimmers := tabMap tickDimmer e.dimmers, pulse := tickTimer e.pulse,
    sinceFlash := e.sinceFlash.map fun n => min 65535 (n + 1), fadeEnd := tickTimer e.fadeEnd,
    follow := tickTimer e.follow, releaseTimer := tickTimer e.releaseTimer, posted := e.posted.map tickPosted,
    deferred := e.deferred.map tickDeferred }

/-- One tick passes (R1, log 1, log 23). -/
def passTick (s : State) : State :=
  { s with
    tick := s.tick + 1, link := tickLink s.link, ops := tickOps s.ops, prb := tabMap tickGroup s.prb,
    cnd.baseDue := true, plt := tickPlt (running s) (plantValues s) s.plt, ilt := tickIlt s.ilt,
    sph.zones := tabMap tickZone s.sph.zones, fgw := tickFgw s.fgw, evl := tickEvl s.evl }

/-! ### Events due at the present tick -/

/-- LINK and the dispatcher: a request to take, a gap, a write at its end (R4, R7, R160, R161). -/
def dueLink (s : State) : Bool :=
  (canTake s && !s.link.intake.isEmpty) || dueTimer s.link.gap ||
  match s.link.dispatcher with
  | .storing _ _ left => left == 0
  | .erasing _ _ left => left == 0
  | .free | .halted => false

/-- OPS: settle ends, spacing, warm-up, silence. -/
def dueOps (o : Ops) : Bool :=
  dueTimer o.plant.settle || dueTimer o.fog.settle || dueTimer o.heat.settle || dueTimer o.light.settle
    || dueTimer o.spacing || dueTimer o.warmUp || dueTimer o.silence

/-- PRB: wakes, samples, substitution limits, stale records. -/
def dueGroup (s : State) (g : Group) : Bool :=
  let r := s.prb[groupIdx g]
  dueTimer r.period || dueTimer r.wake || dueTimer r.second || dueTimer r.subLimit || staleDue s g

/-- PLT: timers, a second of RECOVER, confirm inputs, minima. -/
def duePlt (p : Plt) : Bool :=
  dueTimer p.softWatch || dueTimer p.softClear || dueTimer p.recover || p.secondDue || p.confirmDue
    || anyOf 6 fun n => dueTimer p.stages[n].startTimer || dueTimer p.stages[n].stopTimer || p.stages[n].minDue

/-- SPH: preheat limits and minimum on timers. -/
def dueSph (x : Sph) : Bool :=
  anyOf 8 fun z => dueTimer x.zones[z].preheat || anyOf 3 fun n => dueTimer x.zones[z].heaters[n].minOn

/-- A channel's period boundary brings a change: a level or a class not yet at its output (R154, R155). -/
def boundaryDue (s : State) (ch : Fin 24) : Bool :=
  let d := s.evl.dimmers[ch]
  d.driven && (d.applied != d.working || d.cls != some (lightValues s).classes[ch])

/-- EVL: timers, due entries, fade ends, period boundaries. -/
def dueEvl (s : State) : Bool :=
  dueTimer s.evl.pulse || dueTimer s.evl.fadeEnd || dueTimer s.evl.follow || dueTimer s.evl.releaseTimer
    || s.evl.posted.any (fun e => e.left == 0) || deferDue s
    || anyOf 24 fun ch => s.evl.dimmers[ch].fadeDone || boundaryDue s ch

/-- Something waits to be taken by another block (log 3). -/
def dueTransit (t : Transit) : Bool :=
  !t.loads.isEmpty || !t.heats.isEmpty || t.tableUpdates != 0 || t.tableChanges != 0 || !t.zoneGrants.isEmpty
    || !t.desiccants.isEmpty || !t.raises.isEmpty || !t.caps.isEmpty

/-- Some event of the present tick is not yet taken (log 1). -/
def due (s : State) : Bool :=
  dueLink s || dueOps s.ops || allGroups.any (dueGroup s) || s.cnd.baseDue || duePlt s.plt
    || (dueTimer s.ilt.dwell || dueTimer s.ilt.hold) || dueSph s.sph
    || (dueTimer s.fgw.dwell || dueTimer s.fgw.blind || dueTimer s.fgw.starve) || dueEvl s || dueTransit s.transit

/-- The block with no command waiting: a tick passes, unless an event of the present tick is still to be taken (log 1). -/
def idle (s : State) : State := if due s then s else passTick s

end Sys2Proof.Machine
end

