-- ==== Sys2Proof/Machine/Dispatch.lean ====
section
/-! DEFINITION. exec: one arm per row of the table, each one direct call of that row's meaning. -/

namespace Sys2Proof.Machine

open Sys2Proof

/-- The effect of a command on everything but the queue. -/
def exec (i : Instr) (s : State) : Host.Outcome State Fault Refusal :=
  match i with
  | .frameReceive bytes => Sys2Proof.Machine.execFrameReceive bytes s
  | .gapExpiry => Sys2Proof.Machine.execGapExpiry s
  | .transmitEnd strap => Sys2Proof.Machine.execTransmitEnd strap s
  | .unknownKindRequest => Sys2Proof.Machine.execUnknownKindRequest s
  | .identify => Sys2Proof.Machine.execIdentify s
  | .statusRead => Sys2Proof.Machine.execStatusRead s
  | .noticeFetch => Sys2Proof.Machine.execNoticeFetch s
  | .powerFlagClear => Sys2Proof.Machine.execPowerFlagClear s
  | .restart => Sys2Proof.Machine.execRestart s
  | .resume => Sys2Proof.Machine.execResume s
  | .profileLoad => Sys2Proof.Machine.execProfileLoad s
  | .profileRead => Sys2Proof.Machine.execProfileRead s
  | .calibrate => Sys2Proof.Machine.execCalibrate s
  | .nightHoldEnter => Sys2Proof.Machine.execNightHoldEnter s
  | .nightHoldLeave => Sys2Proof.Machine.execNightHoldLeave s
  | .spacingExpiry => Sys2Proof.Machine.execSpacingExpiry s
  | .settleEnd p => Sys2Proof.Machine.execSettleEnd p s
  | .warmUpExpiry => Sys2Proof.Machine.execWarmUpExpiry s
  | .hostSilenceExpiry => Sys2Proof.Machine.execHostSilenceExpiry s
  | .powerOnReset strap => Sys2Proof.Machine.execPowerOnReset strap s
  | .resetLine strap => Sys2Proof.Machine.execResetLine strap s
  | .brownout strap => Sys2Proof.Machine.execBrownout strap s
  | .periodExpiry g => Sys2Proof.Machine.execPeriodExpiry g s
  | .groupSample g samples => Sys2Proof.Machine.execGroupSample g samples s
  | .recordStale g => Sys2Proof.Machine.execRecordStale g s
  | .firstSweepSample g samples => Sys2Proof.Machine.execFirstSweepSample g samples s
  | .secondSweepSample g samples => Sys2Proof.Machine.execSecondSweepSample g samples s
  | .batchRead => Sys2Proof.Machine.execBatchRead s
  | .substitute => Sys2Proof.Machine.execSubstitute s
  | .substituteEnd => Sys2Proof.Machine.execSubstituteEnd s
  | .substitutionLimitExpiry g => Sys2Proof.Machine.execSubstitutionLimitExpiry g s
  | .baseTick fi entry exit => Sys2Proof.Machine.execBaseTick fi entry exit s
  | .delayComplete k => Sys2Proof.Machine.execDelayComplete k s
  | .oneshotPulseEnd k => Sys2Proof.Machine.execOneshotPulseEnd k s
  | .rateWindowClose k => Sys2Proof.Machine.execRateWindowClose k s
  | .edgePulseEnd k => Sys2Proof.Machine.execEdgePulseEnd k s
  | .countTerminal k => Sys2Proof.Machine.execCountTerminal k s
  | .cellSet => Sys2Proof.Machine.execCellSet s
  | .cellRead => Sys2Proof.Machine.execCellRead s
  | .thresholdSet => Sys2Proof.Machine.execThresholdSet s
  | .gateBind => Sys2Proof.Machine.execGateBind s
  | .counterSet => Sys2Proof.Machine.execCounterSet s
  | .occupancySet => Sys2Proof.Machine.execOccupancySet s
  | .iceMode => Sys2Proof.Machine.execIceMode s
  | .softWatchExpiry => Sys2Proof.Machine.execSoftWatchExpiry s
  | .softClearExpiry => Sys2Proof.Machine.execSoftClearExpiry s
  | .recoverLimitExpiry => Sys2Proof.Machine.execRecoverLimitExpiry s
  | .recoverSecond => Sys2Proof.Machine.execRecoverSecond s
  | .raiseRequest => Sys2Proof.Machine.execRaiseRequest s
  | .confirmRead levels => Sys2Proof.Machine.execConfirmRead levels s
  | .startLimitExpiry n => Sys2Proof.Machine.execStartLimitExpiry n s
  | .stopTimeExpiry n => Sys2Proof.Machine.execStopTimeExpiry n s
  | .minimumPassed n => Sys2Proof.Machine.execMinimumPassed n s
  | .stageLockLock => Sys2Proof.Machine.execStageLockLock s
  | .stageLockUnlock => Sys2Proof.Machine.execStageLockUnlock s
  | .plantRead => Sys2Proof.Machine.execPlantRead s
  | .loadTablePosting poster => Sys2Proof.Machine.execLoadTablePosting poster s
  | .exitDwellExpiry => Sys2Proof.Machine.execExitDwellExpiry s
  | .clearHoldExpiry => Sys2Proof.Machine.execClearHoldExpiry s
  | .tableUpdate => Sys2Proof.Machine.execTableUpdate s
  | .tableChangeRetry => Sys2Proof.Machine.execTableChangeRetry s
  | .loadTableRead => Sys2Proof.Machine.execLoadTableRead s
  | .heatTablePosting poster => Sys2Proof.Machine.execHeatTablePosting poster s
  | .meltDemand => Sys2Proof.Machine.execMeltDemand s
  | .heatTableRead => Sys2Proof.Machine.execHeatTableRead s
  | .zoneGrantHandback => Sys2Proof.Machine.execZoneGrantHandback s
  | .nearIceCapInput poster => Sys2Proof.Machine.execNearIceCapInput poster s
  | .zoneSetOff => Sys2Proof.Machine.execZoneSetOff s
  | .zoneSetOccupied => Sys2Proof.Machine.execZoneSetOccupied s
  | .zoneSetSetback => Sys2Proof.Machine.execZoneSetSetback s
  | .preheatLimitExpiry z => Sys2Proof.Machine.execPreheatLimitExpiry z s
  | .minimumOnExpiry z n => Sys2Proof.Machine.execMinimumOnExpiry z n s
  | .zoneRead => Sys2Proof.Machine.execZoneRead s
  | .descendDwellExpiry => Sys2Proof.Machine.execDescendDwellExpiry s
  | .fogBlindExpiry => Sys2Proof.Machine.execFogBlindExpiry s
  | .desiccantHandback => Sys2Proof.Machine.execDesiccantHandback s
  | .starveExpiry => Sys2Proof.Machine.execStarveExpiry s
  | .fogRead => Sys2Proof.Machine.execFogRead s
  | .cueStore => Sys2Proof.Machine.execCueStore s
  | .cueStoreComplete => Sys2Proof.Machine.execCueStoreComplete s
  | .listErase => Sys2Proof.Machine.execListErase s
  | .listEraseComplete => Sys2Proof.Machine.execListEraseComplete s
  | .cueRead => Sys2Proof.Machine.execCueRead s
  | .goCue => Sys2Proof.Machine.execGoCue s
  | .goNext => Sys2Proof.Machine.execGoNext s
  | .postedCueDue => Sys2Proof.Machine.execPostedCueDue s
  | .deferExpiry => Sys2Proof.Machine.execDeferExpiry s
  | .fadeEndExpiry => Sys2Proof.Machine.execFadeEndExpiry s
  | .followExpiry => Sys2Proof.Machine.execFollowExpiry s
  | .channelFadeEnd ch => Sys2Proof.Machine.execChannelFadeEnd ch s
  | .release => Sys2Proof.Machine.execRelease s
  | .releaseTimerExpiry => Sys2Proof.Machine.execReleaseTimerExpiry s
  | .effectSet => Sys2Proof.Machine.execEffectSet s
  | .strobe => Sys2Proof.Machine.execStrobe s
  | .strobePulseExpiry => Sys2Proof.Machine.execStrobePulseExpiry s
  | .playbackRead => Sys2Proof.Machine.execPlaybackRead s
  | .channelPeriodBoundary ch => Sys2Proof.Machine.execChannelPeriodBoundary ch s

end Sys2Proof.Machine
end

