-- ==== Sys2Proof/Machine/Step.lean ====
section
/-! DEFINITION. step: the command at the front of the queue, or an idle block; and the placing of a decoded command. -/

namespace Sys2Proof.Machine

open Sys2Proof

/-- One step: the command at the front of the queue acts on the state with the queue's rest; with no command the block
idles (log 1). -/
def step (s : State) : Host.Outcome State Fault Refusal :=
  match s.pending with
  | [] => .next (idle s)
  | c :: rest => exec c { s with pending := rest }

/-- The command a word spells put at the front of the queue; the state unchanged where it spells none. -/
def State.withFetchWord (s : State) (nbits w : Nat) : State :=
  match decodeTableWord nbits w with
  | none => s
  | some c => { s with pending := c :: s.pending }

end Sys2Proof.Machine
end

