-- ==== Sys2Proof/Safety.lean ====
section
/-! DEFINITION. What the statements about the machine speak of: the parts of State and what a command leaves unchanged,
a request taken and its answer, and the invariants that every step keeps. -/

namespace Sys2Proof.Machine

open Sys2Proof

/-! ### Parts of State and frames -/

/-- The parts into which the frames divide State; together they are all of it. -/
inductive Part
  | tick | line | intake | path | dispatcher | notices
  | mode | silence | slots | sweep | causes
  | probes | inputs | thresholds | cells | gates
  | values | ice | surface | stages | heatSide
  | loadTable | heatTable | zones | caps | level | fog
  | memory | dimmers | effects | playback | waiting
  | transit | pending
  deriving DecidableEq, Repr

/-- Two states have the same value of a part. -/
def agree (p : Part) (s t : State) : Prop :=
  match p with
  | .tick => t.tick = s.tick
  | .line => t.link.rx = s.link.rx ∧ t.link.gap = s.link.gap ∧ t.link.faults = s.link.faults
      ∧ t.link.fastRate = s.link.fastRate
  | .intake => t.link.intake = s.link.intake
  | .path => t.link.busyMark = s.link.busyMark ∧ t.link.overrun = s.link.overrun ∧ t.link.replies = s.link.replies
      ∧ t.link.tx = s.link.tx
  | .dispatcher => t.link.dispatcher = s.link.dispatcher
  | .notices => t.link.notices = s.link.notices ∧ t.link.noticesLost = s.link.noticesLost
  | .mode => t.ops.part = s.ops.part
  | .silence => t.ops.silence = s.ops.silence
  | .slots => t.ops.plant = s.ops.plant ∧ t.ops.fog = s.ops.fog ∧ t.ops.heat = s.ops.heat ∧ t.ops.light = s.ops.light
      ∧ t.ops.spacing = s.ops.spacing
  | .sweep => t.ops.warmUp = s.ops.warmUp ∧ t.ops.sweepList = s.ops.sweepList ∧ t.ops.failedCount = s.ops.failedCount
      ∧ t.ops.sweptCount = s.ops.sweptCount ∧ t.ops.fallbackWaiting = s.ops.fallbackWaiting
  | .causes => t.ops.resetCause = s.ops.resetCause ∧ t.ops.powerFlag = s.ops.powerFlag
  | .probes => t.prb = s.prb
  | .inputs => t.cnd.fi = s.cnd.fi ∧ t.cnd.divider = s.cnd.divider ∧ t.cnd.baseDue = s.cnd.baseDue
      ∧ t.cnd.clocksTaken = s.cnd.clocksTaken ∧ t.cnd.settings = s.cnd.settings
      ∧ t.cnd.entryPhase = s.cnd.entryPhase ∧ t.cnd.exitPhase = s.cnd.exitPhase
      ∧ t.cnd.entryLevel = s.cnd.entryLevel ∧ t.cnd.exitLevel = s.cnd.exitLevel
      ∧ t.cnd.occupancy = s.cnd.occupancy ∧ t.cnd.surge = s.cnd.surge ∧ t.cnd.crowdSurge = s.cnd.crowdSurge
  | .thresholds => t.cnd.thresholds = s.cnd.thresholds
  | .cells => t.cnd.cells = s.cnd.cells
  | .gates => t.cnd.gates = s.cnd.gates
  | .values => t.plt.profile = s.plt.profile ∧ t.fgw.profile = s.fgw.profile ∧ t.sph.profile = s.sph.profile
      ∧ t.evl.profile = s.evl.profile
  | .ice => t.plt.ice = s.plt.ice ∧ t.plt.prior = s.plt.prior
  | .surface => t.plt.request = s.plt.request ∧ t.plt.applied = s.plt.applied ∧ t.plt.mean = s.plt.mean
      ∧ t.plt.softWatch = s.plt.softWatch ∧ t.plt.softClear = s.plt.softClear ∧ t.plt.recover = s.plt.recover
      ∧ t.plt.recoverTicks = s.plt.recoverTicks ∧ t.plt.secondDue = s.plt.secondDue
      ∧ t.plt.brineOut = s.plt.brineOut
  | .stages => t.plt.stages = s.plt.stages ∧ t.plt.confirmDue = s.plt.confirmDue
      ∧ t.plt.boostHeld = s.plt.boostHeld ∧ t.plt.supply = s.plt.supply
  | .heatSide => t.plt.derate = s.plt.derate ∧ t.plt.subfloor = s.plt.subfloor
  | .loadTable => t.ilt = s.ilt
  | .heatTable => t.hat = s.hat
  | .zones => t.sph.zones = s.sph.zones ∧ t.sph.stands = s.sph.stands
  | .caps => t.sph.fogCap = s.sph.fogCap ∧ t.sph.secondary = s.sph.secondary ∧ t.sph.overBudget = s.sph.overBudget
      ∧ t.sph.soft = s.sph.soft
  | .level => t.fgw.level = s.fgw.level ∧ t.fgw.haze = s.fgw.haze
  | .fog => t.fgw.layers = s.fgw.layers ∧ t.fgw.spread = s.fgw.spread ∧ t.fgw.dwell = s.fgw.dwell
      ∧ t.fgw.blind = s.fgw.blind ∧ t.fgw.starve = s.fgw.starve ∧ t.fgw.secondary = s.fgw.secondary
      ∧ t.fgw.weak = s.fgw.weak ∧ t.fgw.fogSeen = s.fgw.fogSeen ∧ t.fgw.doorOpen = s.fgw.doorOpen
      ∧ t.fgw.grant = s.fgw.grant ∧ t.fgw.row = s.fgw.row ∧ t.fgw.postedDemand = s.fgw.postedDemand
      ∧ t.fgw.postedClass = s.fgw.postedClass ∧ t.fgw.postedRaise = s.fgw.postedRaise
      ∧ t.fgw.postedCap = s.fgw.postedCap ∧ t.fgw.postedSecondary = s.fgw.postedSecondary ∧ t.fgw.fan = s.fgw.fan
  | .memory => t.evl.memory = s.evl.memory
  | .dimmers => t.evl.dimmers = s.evl.dimmers
  | .effects => t.evl.want0 = s.evl.want0 ∧ t.evl.want2 = s.evl.want2 ∧ t.evl.want3 = s.evl.want3
      ∧ t.evl.pulse = s.evl.pulse ∧ t.evl.sinceFlash = s.evl.sinceFlash ∧ t.evl.dropReported = s.evl.dropReported
      ∧ t.evl.hazeInhibit = s.evl.hazeInhibit ∧ t.evl.strobeInhibit = s.evl.strobeInhibit
  | .playback => t.evl.play = s.evl.play ∧ t.evl.position = s.evl.position ∧ t.evl.recent = s.evl.recent
      ∧ t.evl.fadeEnd = s.evl.fadeEnd ∧ t.evl.follow = s.evl.follow ∧ t.evl.releaseTimer = s.evl.releaseTimer
      ∧ t.evl.lightLoad = s.evl.lightLoad
  | .waiting => t.evl.posted = s.evl.posted ∧ t.evl.deferred = s.evl.deferred
  | .transit => t.transit = s.transit
  | .pending => t.pending = s.pending

/-- Nothing but the named parts differs between two states. -/
def Frame (may : List Part) (s t : State) : Prop := ∀ p : Part, p ∉ may → agree p s t

/-- What a stage change and the stage decision touch (R90, R95). -/
def stageParts : List Part := [.stages, .transit, .notices]

/-- What a change of ice state touches in its own block (R80). -/
def iceParts : List Part := [.ice, .surface, .stages, .transit, .notices]

/-- What a change of fog level touches in its own block (R147). -/
def fogParts : List Part := [.level, .fog, .transit, .notices]

/-- What a group update touches in the blocks that take it (R43). -/
def updateParts : List Part :=
  [.thresholds, .ice, .surface, .stages, .heatSide, .level, .fog, .zones, .transit, .notices]

/-- What playback touches (R163 to R170). -/
def playParts : List Part := [.dimmers, .effects, .playback, .waiting, .transit, .notices]

/-- What the entry to RUN touches (R26). -/
def runParts : List Part :=
  [.mode, .silence, .sweep, .surface, .stages, .heatSide, .level, .fog, .transit, .notices]

/-- What a request touches when the dispatcher takes it and answers it (R7). -/
def requestParts : List Part := [.intake, .path]

/-- What the settle end of a profile touches: PLANT gives the load table figures before the entry to RUN, LIGHT moves
event lighting, and the other settle ends leave both as they are (R21). -/
def settleParts (p : ProfileKind) : List Part :=
  updateParts ++ [.slots, .mode, .silence, .sweep, .values, .probes, .heatTable, .cells]
    ++ match p with
      | .plant => [.loadTable]
      | .fog | .heat => []
      | .light => playParts

/-- Everything but the queue: what a reset may change (R33). -/
def resetParts : List Part :=
  [.tick, .line, .intake, .path, .dispatcher, .notices, .mode, .silence, .slots, .sweep, .causes, .probes, .inputs,
   .thresholds, .cells, .gates, .values, .ice, .surface, .stages, .heatSide, .loadTable, .heatTable, .zones, .caps,
   .level, .fog, .memory, .dimmers, .effects, .playback, .waiting, .transit]

/-- The parts a command may change, by the rules that own it; every other part it leaves as it was. -/
def touches : Instr → List Part
  | .frameReceive _ => [.line, .intake, .path, .silence]
  | .gapExpiry => [.line]
  | .transmitEnd _ | .powerOnReset _ | .resetLine _ | .brownout _ => resetParts
  | .unknownKindRequest | .identify | .profileRead | .batchRead | .cellRead | .plantRead | .loadTableRead
  | .heatTableRead | .zoneRead | .fogRead | .cueRead | .playbackRead => requestParts
  | .statusRead => requestParts ++ [.line, .notices]
  | .noticeFetch => requestParts ++ [.notices]
  | .powerFlagClear => requestParts ++ [.causes]
  | .restart | .cueStore | .listErase => requestParts ++ [.dispatcher]
  | .resume => requestParts ++ [.mode, .silence, .sweep, .cells]
  | .profileLoad => requestParts ++ [.mode, .slots]
  | .calibrate => requestParts ++ [.mode, .sweep, .probes]
  | .nightHoldEnter =>
    requestParts ++ [.mode, .silence, .sweep, .cells, .memory, .zones, .dimmers, .effects, .playback, .transit, .notices]
  | .nightHoldLeave => requestParts ++ updateParts ++ [.mode, .silence, .sweep, .cells, .probes]
  | .spacingExpiry => [.slots]
  | .settleEnd p => settleParts p
  | .warmUpExpiry => .cells :: runParts
  | .hostSilenceExpiry => playParts ++ [.mode, .silence, .sweep, .cells]
  | .periodExpiry _ | .firstSweepSample _ _ | .substitutionLimitExpiry _ => [.probes]
  | .groupSample _ _ | .recordStale _ => updateParts ++ [.probes, .cells]
  | .secondSweepSample _ _ => updateParts ++ runParts ++ [.probes, .cells]
  | .substitute => requestParts ++ updateParts ++ [.probes, .cells]
  | .substituteEnd => requestParts ++ [.probes]
  | .baseTick _ _ _ => iceParts ++ fogParts ++ [.inputs, .cells, .gates, .zones, .effects]
  | .delayComplete _ | .oneshotPulseEnd _ | .rateWindowClose _ | .edgePulseEnd _ | .countTerminal _ => [.inputs, .cells]
  | .cellSet => requestParts ++ [.cells]
  | .thresholdSet => requestParts ++ [.thresholds, .cells]
  | .gateBind => requestParts ++ [.gates]
  | .counterSet => requestParts ++ [.inputs, .cells]
  | .occupancySet => requestParts ++ [.inputs, .transit]
  | .iceMode => requestParts ++ iceParts ++ [.cells]
  | .softWatchExpiry | .softClearExpiry | .recoverLimitExpiry => .cells :: iceParts
  | .recoverSecond => [.surface, .transit]
  | .raiseRequest => .surface :: stageParts
  | .confirmRead _ | .startLimitExpiry _ | .stopTimeExpiry _ | .minimumPassed _ | .tableUpdate => stageParts
  | .stageLockLock | .stageLockUnlock => requestParts ++ stageParts
  | .loadTablePosting _ | .exitDwellExpiry | .clearHoldExpiry => [.loadTable, .transit, .notices, .cells]
  | .tableChangeRetry | .postedCueDue | .fadeEndExpiry | .followExpiry => playParts
  | .heatTablePosting _ => [.heatTable, .transit, .notices, .cells]
  | .meltDemand => requestParts ++ [.heatTable, .transit, .notices, .cells]
  | .zoneGrantHandback | .preheatLimitExpiry _ | .minimumOnExpiry _ _ => [.zones, .transit]
  | .nearIceCapInput _ => [.caps, .zones, .transit]
  | .zoneSetOff | .zoneSetOccupied | .zoneSetSetback => requestParts ++ [.zones, .transit]
  | .descendDwellExpiry | .fogBlindExpiry => .cells :: fogParts
  | .desiccantHandback | .starveExpiry => [.fog, .transit]
  | .cueStoreComplete => [.path, .dispatcher, .memory]
  | .listEraseComplete => [.path, .dispatcher, .memory, .waiting, .playback, .notices]
  | .goCue | .goNext | .release => requestParts ++ playParts
  | .deferExpiry => [.waiting, .notices]
  | .channelFadeEnd _ | .channelPeriodBoundary _ => [.dimmers]
  | .releaseTimerExpiry => [.playback, .transit]
  | .effectSet => requestParts ++ [.effects]
  | .strobe => requestParts ++ [.effects, .notices]
  | .strobePulseExpiry => [.effects]

/-! ### A request taken, and its answer -/

/-- The state in which an owner sees a taken request: it has left the intake (R7). -/
def took (s : State) : State := { s with link.intake := s.link.intake.tail }

/-- The dispatcher may take the request at the head of the intake, it is of this row, and it passes the screen with
these items (R7, R8). -/
structure Taken (row : Instr) (s : State) (r : Request) (items : List Item) : Prop where
  head : s.link.intake.head? = some r
  free : canTake s = true
  kind : requestRow r = row
  pass : screen (took s) r = .pass items

/-- The reply to a request with an answer (R10, R11). -/
def replyTo (r : Request) (a : Answer) : Reply :=
  { tag := r.tag, kind := replyKind r.kind, body := a.body, restart := false }

/-- The reply that will leave TXD last of those that stand now: in the reply path, else being sent. -/
def lastReply (l : Link) : Option Reply := (l.tx.toList ++ l.replies).getLast?

/-- A reply has joined the tail of the reply path, behind those that stood there, all of them in their order (R7, R10).
A frame being sent goes on, busy mark and overrun flag standing. An idle transmitter starts at once: a marked tag's BUSY
reply, which empties mark and flag, ahead of the whole path (R6); else the head of the path, the new reply if the path
was empty. -/
structure Replied (s t : State) (reply : Reply) : Prop where
  sending : ∀ f, s.link.tx = some f →
    t.link.tx = some f ∧ t.link.replies = s.link.replies ++ [reply]
    ∧ t.link.busyMark = s.link.busyMark ∧ t.link.overrun = s.link.overrun
  marked : ∀ tag, s.link.tx = none → s.link.busyMark = some tag →
    t.link.tx = some
      { tag := tag, kind := 0xFF, body := [11, 0x10, 1, if s.link.overrun then 1 else 0], restart := false }
    ∧ t.link.replies = s.link.replies ++ [reply] ∧ t.link.busyMark = none ∧ t.link.overrun = false
  idle : s.link.tx = none → s.link.busyMark = none →
    t.link.tx ≠ none ∧ t.link.tx.toList ++ t.link.replies = s.link.replies ++ [reply]
    ∧ t.link.busyMark = none ∧ t.link.overrun = s.link.overrun

/-- A request is answered: it has left the intake and its reply has joined the reply path (R7, R10). -/
def Answered (s t : State) (r : Request) (a : Answer) : Prop :=
  t.link.intake = s.link.intake.tail ∧ Replied s t (replyTo r a)

/-- A command completes: it answers a next state, of which the property holds. -/
def Ends (c : Instr) (s : State) (P : State → Prop) : Prop := ∃ t, exec c s = .next t ∧ P t

/-- A request is answered and nothing else changes: it has left the intake and its reply is on its way. -/
def OnlyAnswers (c : Instr) (s : State) (r : Request) (a : Answer) : Prop :=
  Ends c s fun t => Answered s t r a ∧ Frame requestParts s t

/-- A notice record of this moment (R13). -/
def note (s : State) (kind : NoticeKind) (source : Nat) (first second : Int) : Notice :=
  { kind := kind, source := source, stamp := s.tick, first := first, second := second }

/-- The notice that joined the queue last. -/
def lastNotice (s : State) : Option Notice := s.link.notices.getLast?

/-- A whole frame as it arrives, every stop bit at the idle level (R2, R3). -/
def arriving (tag kind : Byte) (body : List Byte) : List LineByte :=
  (wire tag kind body).map fun v => { value := v, stopOk := true }

/-- The request kinds that the table of R175 lists. -/
def requestKinds : List Nat :=
  [0x01, 0x02, 0x03, 0x04, 0x05, 0x06, 0x10, 0x11, 0x12, 0x13, 0x14, 0x20, 0x21, 0x22, 0x30, 0x31, 0x32, 0x33, 0x34,
   0x35, 0x40, 0x41, 0x42, 0x43, 0x50, 0x51, 0x52, 0x53, 0x58, 0x60, 0x61, 0x62, 0x63, 0x64, 0x65, 0x66, 0x67]

/-- A job is quiescent, by the table of R22; FOG's second condition is that of every load outside start-up. -/
def QuietJob (s : State) : ProfileKind → Prop
  | .plant => s.plt.ice = .hold ∧ ∀ n : Fin 6, s.plt.stages[n].state ≠ .starting ∧ s.plt.stages[n].state ≠ .stopping
  | .fog => s.fgw.level = .clear
  | .heat => ∀ z : Fin 8, s.sph.zones[z].state = .off
  | .light => s.evl.play = .idle ∧ s.evl.posted = [] ∧ s.evl.deferred = none

/-- The part state and job state permit a load of a profile (R19, R22). -/
def LoadPermitted (s : State) (p : ProfileKind) : Prop :=
  match s.ops.part with
  | .unconfigured | .configuring => ∀ q, profileCode q < profileCode p → (slotOf s.ops q).status ≠ .absent
  | .configured => True
  | .calibrating => False
  | .run | .nightHold | .fallback => (∀ g, s.prb[groupIdx g].state ≠ .substituted) ∧ QuietJob s p

/-- The host-silence timer as it starts: the full limit, or stopped under a limit of 0 (R30). -/
def freshSilence (s : State) : Timer :=
  if (plantValues s).silence = 0 then none else some (plantValues s).silence

/-- The moves of ICE MODE, by the table of R79. -/
def IceMove : IceState → IceState → Prop
  | .hold, .practice | .hold, .game | .hold, .covered => True
  | .practice, .game | .practice, .hold | .practice, .resurface => True
  | .game, .practice | .game, .hold | .game, .resurface => True
  | .covered, .hold => True
  | .resurface, .recover => True
  | .soft, .hold => True
  | _, _ => False

/-! ### The item check, rule by rule (R12) -/

/-- The rows of R178 for the items of a request that is no PROFILE LOAD; of SUBSTITUTE the range of each value is that
of the channel its place names (R50, log 12). -/
def itemRow (r : Request) : Nat → List Item → Option ItemSpec :=
  if r.kind = 0x21 then substituteTable (namedGroup r.body) else inTable (requestItems r.kind.toNat)

/-- The rows of a PROFILE LOAD of a profile: the profile kind item and the profile's own (R18, R179). -/
def profileRow (p : ProfileKind) : Nat → List Item → Option ItemSpec := inTable (one 0x01 0 3 :: profileItems p)

/-- The bytes are a list of items each of which passes on its own (R12). -/
inductive ItemsPass (row : Nat → List Item → Option ItemSpec) : List Byte → List Item → Prop
  | none : ItemsPass row [] []
  | next (front : List Byte) (seen : List Item) (id len : Byte) (value : List Byte) (spec : ItemSpec)
      (before : ItemsPass row front seen) (known : row id.toNat seen = some spec)
      (whole : len.toNat = value.length) (length : len.toNat = spec.len)
      (range : spec.range.holds (itemValue spec.signed value) = true) (count : countOf seen id.toNat < spec.most)
      (apart : spec.distinct = true → ∀ w ∈ valuesOf seen id.toNat, w % 256 ≠ itemValue spec.signed value % 256) :
      ItemsPass row (front ++ id :: len :: value) (seen ++ [{ id := id.toNat, val := itemValue spec.signed value }])

/-- The item of an id that stands behind `seen` fails, `rest` being the bytes behind its id (R12). -/
inductive ItemFails (row : Nat → List Item → Option ItemSpec) (seen : List Item) (id : Nat) : List Byte → Prop
  /-- Its id is not an item of the request. -/
  | unknown (rest : List Byte) (h : row id seen = none) : ItemFails row seen id rest
  /-- The body ends before its length byte. -/
  | noLength : ItemFails row seen id []
  /-- The body ends inside its value. -/
  | cutOff (len : Byte) (rest : List Byte) (h : rest.length < len.toNat) : ItemFails row seen id (len :: rest)
  /-- Its length differs from its row's. -/
  | length (spec : ItemSpec) (len : Byte) (rest : List Byte) (known : row id seen = some spec)
      (h : len.toNat ≠ spec.len) : ItemFails row seen id (len :: rest)
  /-- Its value lies outside its range. -/
  | range (spec : ItemSpec) (len : Byte) (value rest : List Byte) (known : row id seen = some spec)
      (whole : len.toNat = value.length) (h : spec.range.holds (itemValue spec.signed value) = false) :
      ItemFails row seen id (len :: (value ++ rest))
  /-- It repeats an item that may not be repeated, or exceeds the count. -/
  | count (spec : ItemSpec) (rest : List Byte) (known : row id seen = some spec) (h : spec.most ≤ countOf seen id) :
      ItemFails row seen id rest
  /-- It repeats a key that must be unique among the repeats. -/
  | key (spec : ItemSpec) (len : Byte) (value rest : List Byte) (w : Int) (known : row id seen = some spec)
      (whole : len.toNat = value.length) (distinct : spec.distinct = true) (twice : w ∈ valuesOf seen id)
      (h : w % 256 = itemValue spec.signed value % 256) : ItemFails row seen id (len :: (value ++ rest))

/-- A check that relates items of a request fails, and the id it names: the later of the two in the body (R12, R58, R60,
R128, R178), or the slot of a TABLE cell (R62). -/
inductive RelationFails (kind : Nat) (items : List Item) : Nat → Prop
  /-- A threshold's limit outside the range of its channel (R58). -/
  | limit (ch x : Int) (k : kind = 0x32) (channel : valueOf items 0x11 = some ch) (given : valueOf items 0x12 = some x)
      (h : x < -5000 ∨ rangeHigh (groupOf (ch.toNat / 8)) (ch.toNat % 8) < x) :
      RelationFails kind items (laterOf items 0x11 0x12)
  /-- A target with a zone mode other than OCCUPIED (R128). -/
  | target (m x : Int) (k : kind = 0x50) (mode : valueOf items 0x11 = some m) (given : valueOf items 0x12 = some x)
      (h : m ≠ 2) : RelationFails kind items (laterOf items 0x11 0x12)
  /-- NEXT together with list or cue number: the last of them (R178). -/
  | next (front back : List Item) (x : Item) (k : kind = 0x63) (next : 0 < countOf items 0x12)
      (named : 0 < countOf items 0x10 ∨ 0 < countOf items 0x11) (stands : items = front ++ x :: back)
      (one : x.id ∈ [0x10, 0x11, 0x12]) (last : ∀ y ∈ back, y.id ∉ [0x10, 0x11, 0x12]) : RelationFails kind items x.id
  /-- An item that the cell's mode does not take (R60). -/
  | forbidden (m : Int) (id : Nat) (k : kind = 0x30) (mode : valueOf items 0x11 = some m)
      (listed : id ∈ modeForbids m.toNat) (h : 0 < countOf items id) : RelationFails kind items (laterOf items 0x11 id)
  /-- The CHAIN clock for C0 (R60). -/
  | chain (k : kind = 0x30) (cell : valueOf items 0x10 = some 0) (clock : valueOf items 0x17 = some 2) :
      RelationFails kind items (laterOf items 0x10 0x17)
  /-- A slot of a TABLE cell that names a cell of equal or higher index (R62). -/
  | source (slot : Nat) (c x : Int) (k : kind = 0x30) (mode : valueOf items 0x11 = some 1)
      (listed : slot ∈ [0x12, 0x13, 0x14]) (cell : valueOf items 0x10 = some c) (given : valueOf items slot = some x)
      (h : 18 + c ≤ x ∧ x ≤ 33) : RelationFails kind items slot

/-- The two relations of the group schedule whose period has the id `start`: a warm-up that is not less than the period,
a stale limit below it (R39, R179). -/
def schedulePairs (start : Nat) : List (Nat × Nat × (Int → Int → Bool)) :=
  [(start, start + 1, fun period warm => decide (period ≤ warm)),
   (start, start + 2, fun period limit => decide (limit < period))]

/-- The relations between two items of a profile, each by its items and what of their values fails (R75, R124, R139,
R153), the group schedules of R36 among them (R39). -/
def profilePairs : ProfileKind → List (Nat × Nat × (Int → Int → Bool))
  | .plant =>
    (List.range 4).map (fun i => (0x36 + i, 0x3A + i, fun low high => decide (high ≤ low)))
    ++ [(0x55, 0x56, fun start fin => decide (fin ≤ start))] ++ schedulePairs 0x5B ++ schedulePairs 0x5F
  | .fog =>
    [(0x12, 0x11, fun fog alert => decide (alert ≤ fog)), (0x11, 0x10, fun alert watch => decide (watch ≤ alert))]
    ++ schedulePairs 0x28 ++ schedulePairs 0x2C
  | .heat => schedulePairs 0x54
  | .light =>
    [(0x28, 0x29, fun retention list => decide (retention ≠ 0 ∧ retention < list)),
     (0x2D, 0x2C, fun pulse interval => decide (interval ≤ pulse))]

/-- A check that relates two items of a profile fails; it names the later of them in the body (R12, R75; of a schedule,
beside R39's words, log 12). -/
inductive PairFails (p : ProfileKind) (items : List Item) : Nat → Prop
  /-- Both items stand, and their values fail the relation. -/
  | pair (a b : Nat) (bad : Int → Int → Bool) (x y : Int) (listed : (a, b, bad) ∈ profilePairs p)
      (first : valueOf items a = some x) (second : valueOf items b = some y) (h : bad x y = true) :
      PairFails p items (laterOf items a b)

/-! ### What the jobs leave, told once for several commands -/

/-- A condition's timer as a judgement leaves it (R84, R85, R107, R144, R151): loaded if the condition holds and it was
idle, running on if it was running, idle if the condition does not hold. -/
def Watched (holds : Prop) (load : Nat) (before after : Timer) : Prop :=
  (holds → after = if before.isSome then before else some load) ∧ (¬holds → after = none)

/-- The notice queue after some records have joined it, one by one (R13). -/
def joinAll (queue records : List Notice) : List Notice :=
  records.foldl (fun q n => if q.length < 32 then q ++ [n] else q.tail ++ [n]) queue

/-- Every output of the fog watch stands as it is formed (R148, R149). -/
def OutputsFormed (s : State) : Prop :=
  s.fgw.postedDemand = (rowInForce s).desiccant ∧ s.fgw.postedClass = desiccantClass s.fgw.level
  ∧ s.fgw.postedRaise = raiseOutput s ∧ s.fgw.postedCap = (rowInForce s).cap
  ∧ s.fgw.postedSecondary = s.fgw.secondary ∧ s.fgw.fan = (rowInForce s).fan

/-- What the fog watch has on its way after an event: beside what it had, each output that the event changed, once, and
nothing else (R149; the waiting transfers are log 3, the cap ahead of the secondary flag log 41). -/
def OutputsPosted (s t : State) : Prop :=
  t.transit.heats.filter (fun p => heatPosterOf p == .fogWatch)
    = s.transit.heats.filter (fun p => heatPosterOf p == .fogWatch)
      ++ (if t.fgw.postedDemand = s.fgw.postedDemand ∧ t.fgw.postedClass = s.fgw.postedClass then []
        else [.fogWatch t.fgw.postedDemand t.fgw.postedClass])
  ∧ t.transit.raises
    = s.transit.raises ++ (if t.fgw.postedRaise = s.fgw.postedRaise then [] else [t.fgw.postedRaise])
  ∧ t.transit.caps.filter (fun c => capPosterOf c == .fogWatch)
    = s.transit.caps.filter (fun c => capPosterOf c == .fogWatch)
      ++ (if t.fgw.postedCap = s.fgw.postedCap then [] else [.fogCap t.fgw.postedCap])
      ++ (if t.fgw.postedSecondary = s.fgw.postedSecondary then [] else [.secondary t.fgw.postedSecondary])

/-- The part of the load update that follows the ice state and the applied raise (R80, R87), as it stands. -/
def iceUpdate (s : State) : PlantUpdate :=
  { PlantUpdate.empty with
    base := some (modeValues s).baseLoad, factor := some (modeValues s).factor, resurface := some (resurfaceEntry s),
    fogRaise := some (fogRaise s) }

/-- The soft watch condition (R84). -/
def SoftHolds (s : State) : Prop :=
  (s.plt.ice = .practice ∨ s.plt.ice = .game ∨ s.plt.ice = .covered ∨ s.plt.ice = .recover)
  ∧ ∃ m, s.plt.mean = some m ∧ bandHigh s + (plantValues s).softMargin < m

/-- The soft clear condition (R85). -/
def ClearHolds (s : State) : Prop := s.plt.ice = .soft ∧ ∃ m, s.plt.mean = some m ∧ m ≤ bandHigh s

/-- The ice has changed its state with the effects of R80: state and prior state, the applied raise and the brine
setpoint of the new state, the three timers, the update to the ice load table, spectator heating told of SOFT, the
sources with the cells up to date, the stage decision taken; of RECOVER no tick and no whole second has passed (R83). -/
structure IceChanged (s t : State) (dest : IceState) (prior : Option IceMode) : Prop where
  ice : t.plt.ice = dest
  held : t.plt.prior = prior
  applied : t.plt.applied = min s.plt.request (raiseCeiling t)
  brine : running s = true → t.plt.brineOut = bandLow t - (plantValues s).approach
  recover : t.plt.recover = if dest = .recover then some (plantValues s).recoverLimit else none
  elapsed : t.plt.recoverTicks = 0 ∧ t.plt.secondDue = false
  posted : LoadPosting.plant (iceUpdate t) ∈ t.transit.loads
  softWatch : Watched (SoftHolds t) (plantValues s).softDelay s.plt.softWatch t.plt.softWatch
  softClear : Watched (ClearHolds t) (plantValues s).softClear s.plt.softClear t.plt.softClear
  told : (dest = .soft → s.plt.ice ≠ .soft → CapInput.soft true ∈ t.transit.caps)
    ∧ (dest ≠ .soft → s.plt.ice = .soft → CapInput.soft false ∈ t.transit.caps)
  sources : (sourceLevel t 36 = true ↔ dest = .resurface) ∧ (sourceLevel t 37 = true ↔ dest = .practice ∨ dest = .game)
    ∧ (sourceLevel t 38 = true ↔ dest = .covered) ∧ (sourceLevel t 39 = true ↔ dest = .soft) ∧ sync t = t
  decided : running s = true → decideOnce t = none

/-- The supply of the stages in RUNNING (R96). -/
def supplyOf (s : State) : Nat :=
  (sumOver 6 fun n => if s.plt.stages[n].state = .running then (stageValues s n).recovery else 0) * s.plt.derate / 100

/-- The supply after stage changes (R95, R96): formed again if a stage entered or left RUNNING, and on its way if it
changed. -/
def SupplyFollows (s t : State) : Prop :=
  ((∃ n : Fin 6, ¬(s.plt.stages[n].state = .running ↔ t.plt.stages[n].state = .running)) → t.plt.supply = supplyOf t)
  ∧ (t.plt.supply ≠ s.plt.supply → HeatPosting.plant (some t.plt.supply) none ∈ t.transit.heats)

/-! ### The stage decision (R90) -/

/-- A stage is OFF and its minimum off has passed (R90, R91). -/
def OffPast (s : State) (n : Fin 6) : Prop :=
  s.plt.stages[n].state = .off ∧ (stageValues s n).minOff ≤ s.plt.stages[n].ticks

/-- A stage is RUNNING and its minimum run has passed (R90, R91). -/
def RunPast (s : State) (n : Fin 6) : Prop :=
  s.plt.stages[n].state = .running ∧ (stageValues s n).minRun ≤ s.plt.stages[n].ticks

/-- The decision starts a stage (R90, Start): the online capacity is below the required one, no stage is STARTING, and
this is the lowest-numbered one that is OFF with its minimum off passed. -/
def Starts (s : State) (n : Fin 6) : Prop :=
  (onlineCapacity s : Int) < requiredCapacity s ∧ (∀ m : Fin 6, s.plt.stages[m].state ≠ .starting)
  ∧ OffPast s n ∧ ∀ m : Fin 6, m < n → ¬OffPast s m

/-- The decision stops a stage (R90, Stop): it is the highest-numbered one that is RUNNING with its minimum run passed,
and without it the online capacity is at least the required one and the stop hysteresis. -/
def Stops (s : State) (n : Fin 6) : Prop :=
  RunPast s n ∧ (∀ m : Fin 6, n < m → ¬RunPast s m)
  ∧ requiredCapacity s + (plantValues s).stopHysteresis ≤ (onlineCapacity s : Int) - (stageValues s n).capacity

/-- The decision changes nothing (R90). -/
def NothingToDecide (s : State) : Prop := ∀ n : Fin 6, ¬Starts s n ∧ ¬Stops s n

/-- A stage as its start leaves it: STARTING with the start limit loaded, its ticks from 0 (R88, R90, R92). -/
def startedStage (s : State) (n : Fin 6) : Stage :=
  { s.plt.stages[n] with
    state := .starting, cause := .none, ticks := 0, minDue := false, stopTimer := none,
    startTimer := some (stageValues s n).startLimit }

/-- A stage as its stop leaves it: STOPPING with the stop time loaded, its ticks from 0 (R88, R90, R93). -/
def stoppedStage (s : State) (n : Fin 6) : Stage :=
  { s.plt.stages[n] with
    state := .stopping, cause := .none, ticks := 0, minDue := false, startTimer := none,
    stopTimer := some (stageValues s n).stopTime }

/-- The decision has been taken again and again until it changed nothing (R90, R95): its first change is the one that
R90 names, a stage that changed was started or stopped past its minimum, one at most was started, the supply follows,
and nothing else is touched. -/
structure DecisionTaken (s t : State) : Prop where
  ended : NothingToDecide t
  nothing : NothingToDecide s → t = s
  start : ∀ n : Fin 6, Starts s n → t.plt.stages[n] = startedStage s n
  stop : ∀ n : Fin 6, Stops s n → t.plt.stages[n] = stoppedStage s n
  each : ∀ n : Fin 6, t.plt.stages[n] = s.plt.stages[n] ∨ (OffPast s n ∧ t.plt.stages[n] = startedStage s n)
    ∨ (RunPast s n ∧ t.plt.stages[n] = stoppedStage s n)
  one : ∀ m n : Fin 6, s.plt.stages[m].state = .off → t.plt.stages[m].state = .starting →
    s.plt.stages[n].state = .off → t.plt.stages[n].state = .starting → m = n
  supply : SupplyFollows s t
  rest : t = { s with
    plt.stages := t.plt.stages, plt.supply := t.plt.supply, transit.heats := t.transit.heats }

/-! ### One tick (R1) -/

/-- A timer has counted one tick: it is idle if it was, else one tick nearer to its expiry. -/
def Counted (before after : Timer) : Prop := after = before.map (· - 1)

/-- A tick has passed (R1): the tick count, and in each block its timers, ages and counts; whatever else the block holds
is as it was. That these count in the step that passes the tick is log 23. -/
structure TickPassed (s t : State) : Prop where
  tick : t.tick = s.tick + 1
  link : Counted s.link.gap t.link.gap
    ∧ t.link = { s.link with gap := t.link.gap, dispatcher := t.link.dispatcher }
  write : t.link.dispatcher = match s.link.dispatcher with
    | .storing tag c left => .storing tag c (left - 1)
    | .erasing tag list left => .erasing tag list (left - 1)
    | other => other
  ops : Counted s.ops.spacing t.ops.spacing ∧ Counted s.ops.silence t.ops.silence ∧ Counted s.ops.warmUp t.ops.warmUp
    ∧ t.ops = { s.ops with
        spacing := t.ops.spacing, silence := t.ops.silence, warmUp := t.ops.warmUp, plant := t.ops.plant,
        fog := t.ops.fog, heat := t.ops.heat, light := t.ops.light }
  slots : ∀ p, Counted (slotOf s.ops p).settle (slotOf t.ops p).settle
    ∧ slotOf t.ops p = { slotOf s.ops p with settle := (slotOf t.ops p).settle }
  groups : ∀ g : Group, Counted s.prb[groupIdx g].period t.prb[groupIdx g].period
    ∧ Counted s.prb[groupIdx g].wake t.prb[groupIdx g].wake ∧ Counted s.prb[groupIdx g].second t.prb[groupIdx g].second
    ∧ Counted s.prb[groupIdx g].subLimit t.prb[groupIdx g].subLimit
    ∧ (t.prb[groupIdx g].state = s.prb[groupIdx g].state ∧ t.prb[groupIdx g].held = s.prb[groupIdx g].held
        ∧ t.prb[groupIdx g].schedule = s.prb[groupIdx g].schedule)
    ∧ ∀ k : Fin 8, reading t g k = { reading s g k with age := min 65535 ((reading s g k).age + 1) }
  cnd : t.cnd = { s.cnd with baseDue := true }
  plant : Counted s.plt.softWatch t.plt.softWatch ∧ Counted s.plt.softClear t.plt.softClear
    ∧ Counted s.plt.recover t.plt.recover ∧ t.plt.confirmDue = running s
    ∧ t.plt = { s.plt with
        softWatch := t.plt.softWatch, softClear := t.plt.softClear, recover := t.plt.recover,
        recoverTicks := t.plt.recoverTicks, secondDue := t.plt.secondDue, stages := t.plt.stages,
        confirmDue := t.plt.confirmDue }
  recover : t.plt.recoverTicks =
      (if s.plt.ice = .recover ∧ s.plt.recoverTicks < (plantValues s).recoverLimit then s.plt.recoverTicks + 1
        else s.plt.recoverTicks)
    ∧ (t.plt.secondDue = true ↔ s.plt.secondDue = true ∨ (s.plt.ice = .recover
        ∧ s.plt.recoverTicks + 1 < (plantValues s).recoverLimit ∧ (s.plt.recoverTicks + 1) % 100 = 0))
  stages : ∀ n : Fin 6, t.plt.stages[n].ticks = min 60000 (s.plt.stages[n].ticks + 1)
    ∧ Counted s.plt.stages[n].startTimer t.plt.stages[n].startTimer
    ∧ Counted s.plt.stages[n].stopTimer t.plt.stages[n].stopTimer
    ∧ (t.plt.stages[n].state = s.plt.stages[n].state ∧ t.plt.stages[n].cause = s.plt.stages[n].cause
        ∧ t.plt.stages[n].confirm = s.plt.stages[n].confirm)
    ∧ (t.plt.stages[n].minDue = true ↔ s.plt.stages[n].minDue = true
        ∨ (running s = true ∧ s.plt.stages[n].ticks < 60000
          ∧ ((s.plt.stages[n].state = .off ∧ s.plt.stages[n].ticks + 1 = (stageValues s n).minOff)
            ∨ (s.plt.stages[n].state = .running ∧ s.plt.stages[n].ticks + 1 = (stageValues s n).minRun))))
  loads : Counted s.ilt.dwell t.ilt.dwell ∧ Counted s.ilt.hold t.ilt.hold
    ∧ t.ilt = { s.ilt with dwell := t.ilt.dwell, hold := t.ilt.hold }
  zones : t.sph = { s.sph with zones := t.sph.zones }
    ∧ ∀ z : Fin 8, Counted s.sph.zones[z].preheat t.sph.zones[z].preheat
      ∧ t.sph.zones[z] = { s.sph.zones[z] with preheat := t.sph.zones[z].preheat, heaters := t.sph.zones[z].heaters }
      ∧ ∀ n : Fin 3, t.sph.zones[z].heaters[n].on = s.sph.zones[z].heaters[n].on
        ∧ Counted s.sph.zones[z].heaters[n].minOn t.sph.zones[z].heaters[n].minOn
  fog : Counted s.fgw.dwell t.fgw.dwell ∧ Counted s.fgw.blind t.fgw.blind ∧ Counted s.fgw.starve t.fgw.starve
    ∧ t.fgw = { s.fgw with dwell := t.fgw.dwell, blind := t.fgw.blind, starve := t.fgw.starve }
  lights : Counted s.evl.pulse t.evl.pulse ∧ Counted s.evl.fadeEnd t.evl.fadeEnd ∧ Counted s.evl.follow t.evl.follow
    ∧ Counted s.evl.releaseTimer t.evl.releaseTimer
    ∧ t.evl.sinceFlash = s.evl.sinceFlash.map (fun n => min 65535 (n + 1))
    ∧ t.evl.posted = s.evl.posted.map (fun e => { e with left := e.left - 1 })
    ∧ t.evl.deferred = s.evl.deferred.map (fun d => { d with left := d.left - 1, spent := d.spent + 1 })
    ∧ t.evl = { s.evl with
        dimmers := t.evl.dimmers, pulse := t.evl.pulse, sinceFlash := t.evl.sinceFlash, fadeEnd := t.evl.fadeEnd,
        follow := t.evl.follow, releaseTimer := t.evl.releaseTimer, posted := t.evl.posted, deferred := t.evl.deferred }
  dimmers : ∀ ch : Fin 24, (s.evl.dimmers[ch].fade = none → t.evl.dimmers[ch] = s.evl.dimmers[ch])
    ∧ t.evl.dimmers[ch] = { s.evl.dimmers[ch] with working := t.evl.dimmers[ch].working, fade := t.evl.dimmers[ch].fade }
    ∧ ∀ f, s.evl.dimmers[ch].fade = some f →
      let moved := { f with elapsed := min f.duration (f.elapsed + 1) }
      t.evl.dimmers[ch].fade = some moved ∧ t.evl.dimmers[ch].working = fadeLevel moved
  rest : t.hat = s.hat ∧ t.transit = s.transit ∧ t.pending = s.pending

/-- An event of the present tick is still to be taken (log 1): one of these and no other holds the next tick back. -/
inductive EventDue (s : State) : Prop
  /-- The dispatcher may take the request at the head of the intake (R7). -/
  | request (free : canTake s = true) (waits : s.link.intake ≠ [])
  /-- The gap after a byte of a frame is over (R4). -/
  | gap (h : s.link.gap = some 0)
  /-- The cue memory write of a store is over (R160). -/
  | store (tag : Byte) (c : CueRecord) (h : s.link.dispatcher = .storing tag c 0)
  /-- The cue memory write of an erase is over (R161). -/
  | erase (tag : Byte) (list : Nat) (h : s.link.dispatcher = .erasing tag list 0)
  /-- A profile's settling is over (R21). -/
  | settle (p : ProfileKind) (h : (slotOf s.ops p).settle = some 0)
  /-- The profile spacing, the warm-up or the host silence is over (R20, R24, R30). -/
  | mode (h : s.ops.spacing = some 0 ∨ s.ops.warmUp = some 0 ∨ s.ops.silence = some 0)
  /-- A group's period, warm-up, second sample or substitution is at its end (R41, R42, R48, R51). -/
  | group (g : Group) (h : s.prb[groupIdx g].period = some 0 ∨ s.prb[groupIdx g].wake = some 0
      ∨ s.prb[groupIdx g].second = some 0 ∨ s.prb[groupIdx g].subLimit = some 0)
  /-- A GOOD record is older than the stale limit in effect (R44). -/
  | stale (g : Group) (k : Fin 8) (limit : Nat) (inEffect : effectiveStale s g = some limit)
      (good : (reading s g k).quality = .good) (old : limit < (reading s g k).age)
  /-- The tick's base-tick event is not yet taken (R56). -/
  | base (h : s.cnd.baseDue = true)
  /-- Soft watch, soft clear or recover limit is over (R83 to R85). -/
  | surface (h : s.plt.softWatch = some 0 ∨ s.plt.softClear = some 0 ∨ s.plt.recover = some 0)
  /-- A second of RECOVER has passed, or the confirm inputs are to be read (R83, R92, R93). -/
  | plant (h : s.plt.secondDue = true ∨ s.plt.confirmDue = true)
  /-- A stage's start limit, stop time or minimum has passed (R91 to R93). -/
  | stage (n : Fin 6) (h : s.plt.stages[n].startTimer = some 0 ∨ s.plt.stages[n].stopTimer = some 0
      ∨ s.plt.stages[n].minDue = true)
  /-- The exit dwell or the clear hold is over (R107). -/
  | load (h : s.ilt.dwell = some 0 ∨ s.ilt.hold = some 0)
  /-- A zone's preheat limit is over (R128). -/
  | preheat (z : Fin 8) (h : s.sph.zones[z].preheat = some 0)
  /-- A supplementary stage's minimum on is over (R133). -/
  | minimumOn (z : Fin 8) (n : Fin 3) (h : s.sph.zones[z].heaters[n].minOn = some 0)
  /-- Descend dwell, blindness or starving is over (R144, R146, R151). -/
  | fog (h : s.fgw.dwell = some 0 ∨ s.fgw.blind = some 0 ∨ s.fgw.starve = some 0)
  /-- A flash, the fade end, the follow or the release is over (R158, R170, R171). -/
  | lights (h : s.evl.pulse = some 0 ∨ s.evl.fadeEnd = some 0 ∨ s.evl.follow = some 0 ∨ s.evl.releaseTimer = some 0)
  /-- A posted cue is due (R165). -/
  | posted (e : PostedCue) (h : e ∈ s.evl.posted) (now : e.left = 0)
  /-- The deferred cue has waited to its limit (R168). -/
  | deferred (d : DeferredCue) (h : s.evl.deferred = some d) (now : d.left = 0)
  /-- A channel's fade has reached its duration (R156). -/
  | fade (ch : Fin 24) (f : Fade) (h : s.evl.dimmers[ch].fade = some f) (ended : f.duration ≤ f.elapsed)
  /-- A driven channel's level or class is not yet at its output (R154, R155). -/
  | period (ch : Fin 24) (driven : s.evl.dimmers[ch].driven = true)
      (h : s.evl.dimmers[ch].applied ≠ s.evl.dimmers[ch].working
        ∨ s.evl.dimmers[ch].cls ≠ some (lightValues s).classes[ch])
  /-- Something waits to be taken by another block (log 3). -/
  | transit (h : s.transit.loads ≠ [] ∨ s.transit.heats ≠ [] ∨ s.transit.tableUpdates ≠ 0 ∨ s.transit.tableChanges ≠ 0
      ∨ s.transit.zoneGrants ≠ [] ∨ s.transit.desiccants ≠ [] ∨ s.transit.raises ≠ [] ∨ s.transit.caps ≠ [])

/-! ### The condition cells (R55, R60 to R68) -/

/-- The sources that are no cells, by the table of R55. -/
structure SourcesRead (s : State) : Prop where
  constants : sourceLevel s 0 = false ∧ sourceLevel s 1 = true
  fields : ∀ i : Fin 8, sourceLevel s (2 + i.val) = s.cnd.fi[i]
    ∧ sourceLevel s (10 + i.val) = s.cnd.thresholds[i].active
  fog : (sourceLevel s 34 = true ↔ s.fgw.level = .alert ∨ s.fgw.level = .fog)
    ∧ (sourceLevel s 35 = true ↔ s.fgw.level = .fog)
  ice : (sourceLevel s 36 = true ↔ s.plt.ice = .resurface)
    ∧ (sourceLevel s 37 = true ↔ s.plt.ice = .practice ∨ s.plt.ice = .game)
    ∧ (sourceLevel s 38 = true ↔ s.plt.ice = .covered) ∧ (sourceLevel s 39 = true ↔ s.plt.ice = .soft)
  tables : sourceLevel s 40 = s.ilt.overBudget ∧ sourceLevel s 41 = s.hat.heatShort
    ∧ sourceLevel s 42 = s.cnd.crowdSurge
  part : (sourceLevel s 43 = true ↔ s.ops.part = .fallback) ∧ (sourceLevel s 44 = true ↔ s.ops.part = .nightHold)

/-- The level a slot of a cell sees (R61): of a lower cell its current output, of an equal or higher one its tick view,
of any other source its level. -/
def SlotsSee (s : State) (cells : Vector Cell 16) (k : Fin 16) : Prop :=
  ∀ source : Fin 45,
    (source.val < 18 ∨ 34 ≤ source.val → viewLevel s cells k source = sourceLevel s source.val)
    ∧ ∀ j : Fin 16, source.val = 18 + j.val →
      viewLevel s cells k source = if j < k then cells[j].out else cells[j].tickView

/-- What an edge on the trigger does to a cell that turns it into a pulse (R65, R67): a selected one with no pulse in
progress starts the pulse; any other is only seen. -/
def PulseEdge (sel : EdgeSel) (level : Bool) (c d : Cell) : Prop :=
  (level = c.seen0 → d = c)
  ∧ (level ≠ c.seen0 → c.phase ≠ .pulse → edgeSelects sel level = true →
      d = { c with out := true, phase := .pulse, n := 0, seen0 := level })
  ∧ (level ≠ c.seen0 → c.phase = .pulse ∨ edgeSelects sel level = false → d = { c with seen0 := level })

/-- What one evaluation without a clock event makes of a cell, its slots seeing three levels (R61, R62, R64 to R68). -/
structure EdgesTaken (l0 l1 l2 : Bool) (c d : Cell) : Prop where
  unset : c.config = .none → d = c
  table : ∀ x y z outcomes, c.config = .table x y z outcomes → d = { c with
    out := outcomes.getLsbD ((if l0 then 1 else 0) + (if l1 then 2 else 0) + if l2 then 4 else 0),
    seen0 := l0, seen1 := l1, seen2 := l2 }
  delay : ∀ trigger count clock sel, c.config = .delay trigger count clock sel →
    (l0 = c.seen0 → d = c)
    ∧ (l0 ≠ c.seen0 → (∃ level, c.phase = .pending level) → d = { c with phase := .idle, n := 0, seen0 := l0 })
    ∧ (l0 ≠ c.seen0 → (∀ level, c.phase ≠ .pending level) →
        d = if edgeSelects sel l0 then { c with phase := .pending l0, n := 0, seen0 := l0 }
          else { c with out := l0, seen0 := l0 })
  oneshot : ∀ trigger count clock sel, c.config = .oneshot trigger count clock sel → PulseEdge sel l0 c d
  edge : ∀ trigger clock sel, c.config = .edge trigger clock sel → PulseEdge sel l0 c d
  rate : ∀ trigger count clock sel, c.config = .rate trigger count clock sel →
    (l0 = c.seen0 → d = c)
    ∧ (l0 ≠ c.seen0 → edgeSelects sel l0 = false → d = { c with seen0 := l0 })
    ∧ (l0 ≠ c.seen0 → edgeSelects sel l0 = true → c.phase = .open →
        d = { c with out := true, n := 0, seen0 := l0 })
    ∧ (l0 ≠ c.seen0 → edgeSelects sel l0 = true → c.phase ≠ .open →
        d = { c with phase := .open, n := 0, seen0 := l0 })
  count : ∀ restart pause count clock, c.config = .count restart pause count clock →
    d = { c with n := if l1 = true ∧ c.seen1 = false then 0 else c.n, seen1 := l1, seen2 := l2 }

/-- What a clock event makes of a cell that counts towards a figure while `busy`, and whether a terminal event is
issued: one more is counted; at the figure the cell stands as `done`, idle at a count of 0 (R64 to R67; the count of 0
is log 32). -/
def Clocked (busy : Prop) (count : Nat) (out terminal : Bool) (c d : Cell) (issued : Bool) : Prop :=
  (¬busy → d = c ∧ issued = false)
  ∧ (busy → c.n + 1 < count → d = { c with n := c.n + 1 } ∧ issued = false)
  ∧ (busy → count ≤ c.n + 1 → d = { c with out := out, phase := .idle, n := 0 } ∧ issued = terminal)

/-- What a clock event makes of a cell whose slots see what they last saw, and whether it issues a terminal event (R62,
R64 to R68). -/
structure ClockTaken (c d : Cell) (issued : Bool) : Prop where
  unclocked : cellClock c.config = none → issued = false
  delay : ∀ trigger count clock sel, c.config = .delay trigger count clock sel →
    ((∀ level, c.phase ≠ .pending level) → d = c ∧ issued = false)
    ∧ ∀ level, c.phase = .pending level → Clocked True count level true c d issued
  oneshot : ∀ trigger count clock sel, c.config = .oneshot trigger count clock sel →
    Clocked (c.phase = .pulse) count false true c d issued
  rate : ∀ trigger count clock sel, c.config = .rate trigger count clock sel →
    Clocked (c.phase = .open) count false c.out c d issued
  edge : ∀ trigger clock sel, c.config = .edge trigger clock sel →
    Clocked (c.phase = .pulse) 1 false true c d issued
  count : ∀ restart pause count clock, c.config = .count restart pause count clock →
    (c.seen1 = true → d = { c with out := false, n := 0 } ∧ issued = false)
    ∧ (c.seen1 = false → c.seen2 = true → d = { c with out := false } ∧ issued = false)
    ∧ (c.seen1 = false → c.seen2 = false → c.n + 1 < count →
        d = { c with out := false, n := c.n + 1 } ∧ issued = false)
    ∧ (c.seen1 = false → c.seen2 = false → count ≤ c.n + 1 → d = { c with out := true, n := 0 } ∧ issued = true)

/-- One evaluation of a cell (R61): the clock event, if there is one, is taken first, then the edges, which issue no
terminal event. -/
structure CellEvaluated (l0 l1 l2 : Bool) (c : Cell) : Prop where
  edges : EdgesTaken l0 l1 l2 c (evalCell false l0 l1 l2 c).1 ∧ (evalCell false l0 l1 l2 c).2 = false
  clock : ClockTaken c (evalCell true c.seen0 c.seen1 c.seen2 c).1 (evalCell true c.seen0 c.seen1 c.seen2 c).2
  order : evalCell true l0 l1 l2 c =
    ((evalCell false l0 l1 l2 (evalCell true c.seen0 c.seen1 c.seen2 c).1).1,
     (evalCell true c.seen0 c.seen1 c.seen2 c).2)

/-- The cells brought up to date in one event (R61, R63): each once, with a clock event if it has one of the event's own
or is clocked by CHAIN and the cell one below has issued a terminal event, its slots seeing the final outputs of the
cells below it; its settings and its tick view stand. -/
def BroughtUpToDate (s : State) (clocks : Fin 16 → Bool) (cells : Vector Cell 16) : Prop :=
  ∃ issued : Fin 16 → Bool, ∀ k : Fin 16,
    let slots := cellSlots s.cnd.cells[k].config
    (∀ clocked : Bool,
      (clocked = true ↔ clocks k = true
        ∨ (cellClock s.cnd.cells[k].config = some .chain ∧ ∃ j : Fin 16, j.val + 1 = k.val ∧ issued j = true)) →
      (cells[k], issued k) = evalCell clocked (viewLevel s cells k slots.1) (viewLevel s cells k slots.2.1)
        (viewLevel s cells k slots.2.2) s.cnd.cells[k])
    ∧ cells[k].config = s.cnd.cells[k].config ∧ cells[k].tickView = s.cnd.cells[k].tickView

/-- The cells follow what an event without a clock has changed (R61): they are those of before brought up to date once
under the sources of after, and up to date they stay. -/
def CellsFollow (s t : State) : Prop :=
  t.cnd.cells = evalCells { t with cnd.cells := s.cnd.cells } (fun _ => false) ∧ sync t = t

/-! ### Group updates (R43) -/

/-- An event changed the quality of a record of the group. -/
def qualityDiffers (s t : State) (g : Group) : Bool :=
  anyOf 8 fun k => (reading t g k).quality != (reading s g k).quality

/-- The PROBE_FAULT notices of an event that brought one state to another, in channel order (R45). -/
def faultNotices (s t : State) : List Notice :=
  (List.finRange 40).filterMap fun n : Fin 40 =>
    let old := (reading s (groupOfChannel n) (placeOfChannel n)).quality
    let new := (reading t (groupOfChannel n) (placeOfChannel n)).quality
    if old ≠ new ∧ (old ∈ [.stale, .range, .absent] ∨ new ∈ [.stale, .range, .absent]) then
      some (note s .probeFault n.val (qualityCode new) (qualityCode old))
    else none

/-- The thresholds judged at the updates of an event (R59). -/
def ThresholdsJudged (changed : Group → Bool) (s t : State) : Prop :=
  ∀ i : Fin 8,
    t.cnd.thresholds[i].items = s.cnd.thresholds[i].items
    ∧ (s.cnd.thresholds[i].items = none → t.cnd.thresholds[i].active = s.cnd.thresholds[i].active)
    ∧ ∀ x, s.cnd.thresholds[i].items = some x →
      (changed (groupOfChannel x.channel) = false
          ∨ usableValue t (groupOfChannel x.channel) (placeOfChannel x.channel) = none →
        t.cnd.thresholds[i].active = s.cnd.thresholds[i].active)
      ∧ ∀ v, changed (groupOfChannel x.channel) = true →
        usableValue t (groupOfChannel x.channel) (placeOfChannel x.channel) = some v →
        t.cnd.thresholds[i].active =
          match x.direction with
          | .above => if x.limit < v then true else if v < x.limit - x.hysteresis then false
              else s.cnd.thresholds[i].active
          | .below => if v < x.limit then true else if x.limit + x.hysteresis < v then false
              else s.cnd.thresholds[i].active

/-- The surface mean of the usable group A readings (R82). -/
def meanOf (s : State) : Option Int :=
  let values := (List.finRange 8).filterMap fun k => usableValue s .a k
  if 3 ≤ values.length then some (values.sum.tdiv values.length) else none

/-- A group A update in the plant coordinator (R82 to R85, R89, R90). -/
structure SurfaceJudged (s t : State) : Prop where
  mean : t.plt.mean = meanOf t
  back : ∀ m p, s.plt.ice = .recover → s.plt.prior = some p → t.plt.mean = some m → m ≤ bandHigh s →
    IceChanged s t (iceOfMode p) none
    ∧ note s .iceState 0 (iceCode (iceOfMode p)) (iceCode .recover) ∈ t.link.notices
  stays : ¬(s.plt.ice = .recover ∧ ∃ m, t.plt.mean = some m ∧ m ≤ bandHigh s) →
    t.plt.ice = s.plt.ice ∧ t.plt.prior = s.plt.prior
    ∧ Watched (SoftHolds t) (plantValues s).softDelay s.plt.softWatch t.plt.softWatch
    ∧ Watched (ClearHolds t) (plantValues s).softClear s.plt.softClear t.plt.softClear
    ∧ (surfaceCorrection t ≠ surfaceCorrection s → decideOnce t = none)

/-- The derate factor at a condenser water temperature (R96), the quotient floored before it is taken from 100 (log
22). -/
def derateOf (start fin c2 : Int) : Nat :=
  if c2 ≤ start then 100 else if fin ≤ c2 then 50 else (100 - 50 * (c2 - start) / (fin - start)).toNat

/-- The subfloor demand (R97). -/
def subfloorOf (s : State) : Nat :=
  let demand (x : Int) : Nat :=
    min ((((plantValues s).subfloorLimit - x) * (plantValues s).subfloorGain).tdiv 100).toNat (plantValues s).subfloorMax
  match usableValue s .c 6, usableValue s .c 7 with
  | none, none => (plantValues s).subfloorMax
  | some x, none => demand x
  | none, some y => demand y
  | some x, some y => demand (min x y)

/-- The derate factor, the supply and the subfloor demand judged, and what changed on its way (R96, R97; the factor's
rounding is log 22, the waiting transfers log 3). -/
structure HeatSideJudged (s t : State) : Prop where
  derate : t.plt.derate =
    match usableValue t .c 2 with
    | none => s.plt.derate
    | some c2 => derateOf (plantValues t).derateStart (plantValues t).derateEnd c2
  supply : t.plt.supply = supplyOf t
  subfloor : t.plt.subfloor = subfloorOf t
  supplyPosted : t.plt.supply ≠ s.plt.supply → ∃ d, HeatPosting.plant (some t.plt.supply) d ∈ t.transit.heats
  subfloorPosted : t.plt.subfloor ≠ s.plt.subfloor → ∃ v, HeatPosting.plant v (some t.plt.subfloor) ∈ t.transit.heats

/-- The level a spread calls for (R143). -/
def levelCalled (p : FogProfile) (spread : Int) : FogLevel :=
  if spread ≤ p.fogAt then .fog else if spread ≤ p.alertAt then .alert else if spread ≤ p.watchAt then .watch else .clear

/-- The descend dwell condition (R144). -/
def DwellHolds (s : State) : Prop :=
  s.fgw.level ≠ .clear ∧ s.fgw.fogSeen = false
  ∧ ∃ x, s.fgw.spread = some x ∧ fogThreshold (fogValues s) s.fgw.level + (fogValues s).hysteresis ≤ x

/-- The starve judgement (R151): the switch-off of secondary measures first, then the condition. -/
def StarveJudged (s t : State) : Prop :=
  t.fgw.secondary = (s.fgw.secondary && foggy t.fgw.level && !(decide (t.fgw.row = .satisfied) && !t.fgw.weak))
  ∧ Watched (foggy t.fgw.level = true ∧ t.fgw.secondary = false ∧ (t.fgw.row ≠ .satisfied ∨ t.fgw.weak = true))
    (fogValues t).starveLimit s.fgw.starve t.fgw.starve

/-- The fog watch's spreads stand as formed from the group B records (R142). -/
structure SpreadsFormed (t : State) : Prop where
  layers : ∀ k : Fin 4, t.fgw.layers[k] =
    match usableValue t .b (airPlace k), usableValue t .b (dewPlace k) with
    | some air, some dew => some (air - dew)
    | _, _ => none
  lost : t.fgw.spread = none ↔ ∀ k : Fin 4, t.fgw.layers[k] = none
  smallest : ∀ x, t.fgw.spread = some x →
    (∃ k : Fin 4, t.fgw.layers[k] = some x) ∧ ∀ (k : Fin 4) (y : Int), t.fgw.layers[k] = some y → x ≤ y

/-- Blindness judged at a group B update (R146). -/
def BlindJudged (s t : State) : Prop :=
  t.fgw.blind =
    if t.fgw.spread.isSome then none else if s.fgw.spread.isNone then s.fgw.blind else some (fogValues t).blindLimit

/-- The fog watch's level judged: it moves to a worse one called for, and the descend dwell is judged (R143 to R145,
R147). -/
structure LevelJudged (s t : State) : Prop where
  level : t.fgw.level =
    let called := if s.fgw.fogSeen then .fog else ((t.fgw.spread.map (levelCalled (fogValues t))).getD s.fgw.level)
    if fogRank s.fgw.level < fogRank called then called else s.fgw.level
  haze : t.fgw.haze = if t.fgw.level = s.fgw.level then s.fgw.haze else !foggy t.fgw.level
  told : t.fgw.level ≠ s.fgw.level →
    note s .fogLevel 0 (fogRank t.fgw.level).val (fogRank s.fgw.level).val ∈ t.link.notices
  dwell : Watched (DwellHolds t) (fogValues t).dwell s.fgw.dwell t.fgw.dwell

/-- The desiccant is weak (R150). -/
def WeakHolds (s : State) : Prop :=
  0 < s.fgw.grant ∧ ∃ e2 e3, usableValue s .e 2 = some e2 ∧ usableValue s .e 3 = some e3
    ∧ e2 - (fogValues s).effectMin < e3

/-- The starve condition judged by a change of the level, under the weakness of before, and again after the weakness is
judged (R140, R141, R147, R151). -/
def StarveJudgedTwice (s t : State) : Prop :=
  ∃ u : State,
    u.fgw = { t.fgw with weak := s.fgw.weak, secondary := u.fgw.secondary, starve := u.fgw.starve }
    ∧ (t.fgw.level ≠ s.fgw.level → StarveJudged s u)
    ∧ (t.fgw.level = s.fgw.level → u.fgw.secondary = s.fgw.secondary ∧ u.fgw.starve = s.fgw.starve)
    ∧ StarveJudged u t

/-- The demand held at a target (R130). -/
def demandAt (v : ZoneSettings) (air : Option Int) (held : Nat) (target : Int) : Nat :=
  match air with
  | none => held
  | some x => min ((v.gain * (target - x)).tdiv 100).toNat v.max

/-- The raw demand of a zone in a state and with a target, where its raw demand stood at a figure (R130). -/
def rawAt (s : State) (z : Fin 8) (state : ZoneState) (target : Option Int) (held : Nat) : Nat :=
  match state with
  | .preheat => (zoneValues s z).max
  | .off | .inhibited => 0
  | .occupied => demandAt (zoneValues s z) (usableValue s .d z) held (target.getD 0)
  | .setback => demandAt (zoneValues s z) (usableValue s .d z) held (zoneValues s z).setback

/-- The zones whose demand an event has changed, with the new demands (R132). -/
def changedZones (s t : State) : List (Fin 8 × Nat) :=
  ((List.finRange 8).filter fun z => t.sph.zones[z].demand != s.sph.zones[z].demand).map
    fun z => (z, t.sph.zones[z].demand)

/-- The changed demands are on their way in one posting, and nothing is where none changed (R132; the waiting transfers
are log 3). -/
def DemandsPosted (s t : State) : Prop :=
  t.transit.heats =
    if changedZones s t = [] then s.transit.heats else s.transit.heats ++ [.zones (changedZones s t)]

/-- What spectator heating has on its way to the heat allocation table after an event: beside what it had, the changed
demands in one posting, and nothing where none changed (R132; the waiting transfers are log 3). -/
def ZonesPosted (s t : State) : Prop :=
  t.transit.heats.filter (fun p => heatPosterOf p == .stands)
    = s.transit.heats.filter (fun p => heatPosterOf p == .stands)
      ++ (if changedZones s t = [] then [] else [.zones (changedZones s t)])

/-- What spectator heating has on its way to the ice load table after an event: beside what it had, STANDS once if it
changed (R136; the waiting transfers are log 3). -/
def StandsPosted (s t : State) : Prop :=
  t.transit.loads.filter (fun p => loadPosterOf p == .stands)
    = s.transit.loads.filter (fun p => loadPosterOf p == .stands)
      ++ (if t.sph.stands = s.sph.stands then [] else [.stands t.sph.stands])

/-- A group D update in spectator heating (R128, R130 to R132). -/
structure ZonesJudged (s t : State) : Prop where
  zones : ∀ z : Fin 8,
    let meets := s.sph.zones[z].state = .preheat
      ∧ ∃ x, usableValue t .d z = some x ∧ s.sph.zones[z].target.getD 0 - 50 ≤ x
    (meets → t.sph.zones[z].state = .occupied ∧ t.sph.zones[z].preheat = none)
    ∧ (¬meets → t.sph.zones[z].state = s.sph.zones[z].state ∧ t.sph.zones[z].preheat = s.sph.zones[z].preheat)
    ∧ t.sph.zones[z].target = s.sph.zones[z].target ∧ t.sph.zones[z].heaters = s.sph.zones[z].heaters
    ∧ t.sph.zones[z].raw = rawAt t z t.sph.zones[z].state s.sph.zones[z].target s.sph.zones[z].raw
    ∧ t.sph.zones[z].demand = t.sph.zones[z].raw * zoneCap s z / 100
  posted : ZonesPosted s t

/-- What an event that changed the records of some groups brings beside the records themselves (R43, R45): the notices
of the changed qualities in channel order ahead of any other (log 9), the thresholds judged, and one update to each
consumer, which acts while the jobs run; a consumer without an update stands. -/
structure Updated (changed : Group → Bool) (s t : State) : Prop where
  faults : ∃ more, (∀ n ∈ more, n.kind ≠ .probeFault)
    ∧ t.link.notices = joinAll s.link.notices (faultNotices s t ++ more)
  thresholds : ThresholdsJudged changed s t
  surface : running s = true → changed .a = true → SurfaceJudged s t
  heatSide : running s = true → changed .c = true → HeatSideJudged s t
  plant : running s = false ∨ (changed .a = false ∧ changed .c = false) → t.plt = s.plt
  spreads : running s = true → changed .b = true → SpreadsFormed t ∧ BlindJudged s t ∧ LevelJudged s t
  weak : running s = true → changed .e = true → (t.fgw.weak = true ↔ WeakHolds t)
  starve : running s = true →
    (changed .e = false → t.fgw.level ≠ s.fgw.level → StarveJudged s t)
    ∧ (changed .b = false → t.fgw.weak ≠ s.fgw.weak → StarveJudged s t)
    ∧ (t.fgw.level = s.fgw.level → t.fgw.weak = s.fgw.weak →
        t.fgw.secondary = s.fgw.secondary ∧ t.fgw.starve = s.fgw.starve)
  outputs : running s = true → changed .b = true ∨ changed .e = true → OutputsFormed t ∧ OutputsPosted s t
  fog : running s = false ∨ (changed .b = false ∧ changed .e = false) → t.fgw = s.fgw
  zones : running s = true → changed .d = true → ZonesJudged s t
  stands : running s = false ∨ changed .d = false → t.sph = s.sph
  cells : CellsFollow s t

/-! ### The entry to RUN -/

/-- The part has entered RUN (R25, R26, R77, R141), `failed` channels having failed the sweep: the silence timer
starts, every figure of the plant coordinator is formed and posted and the stage decision taken, the fog watch forms
its spreads, judges level, dwell, blindness, weakness and the starve condition and posts every output, and
CALIBRATION_DONE is the last notice (log 21). A PLANT_BOOST already active is held back (log 36), the derate factor is
rounded as log 22 says, the waiting transfers are log 3. -/
structure RunEntered (s t : State) (failed : Nat) : Prop where
  part : t.ops.part = .run ∧ t.ops.silence = freshSilence s ∧ t.ops.failedCount = 0 ∧ t.ops.sweptCount = 0
  done : lastNotice t = some (note s .calibrationDone 0 (failed : Int) 5)
  surface : t.plt.mean = meanOf t ∧ t.plt.applied = min s.plt.request (raiseCeiling s)
    ∧ t.plt.brineOut = bandLow t - (plantValues s).approach
  decision : t.plt.boostHeld = s.cnd.gates[5].level ∧ decideOnce t = none
  derate : t.plt.derate =
    match usableValue t .c 2 with
    | none => s.plt.derate
    | some c2 => derateOf (plantValues s).derateStart (plantValues s).derateEnd c2
  subfloor : t.plt.subfloor = subfloorOf t
  update : LoadPosting.plant
    { base := some (modeValues s).baseLoad, resurface := some (resurfaceEntry s), fogRaise := some (fogRaise t),
      factor := some (modeValues s).factor, capacity := some (notLockedCapacity s),
      crowd := some (plantValues s).crowd, reserve := some (plantValues s).reserve,
      exitMargin := some (plantValues s).exitMargin } ∈ t.transit.loads
  heat : HeatPosting.plant (some s.plt.supply) (some t.plt.subfloor) ∈ t.transit.heats
  spreads : SpreadsFormed t
  blind : t.fgw.blind = if t.fgw.spread.isSome then none else some (fogValues s).blindLimit
  level : LevelJudged s t
  weak : t.fgw.weak = true ↔ WeakHolds t
  starve : StarveJudgedTwice s t
  outputs : OutputsFormed t
  posted : HeatPosting.fogWatch t.fgw.postedDemand t.fgw.postedClass ∈ t.transit.heats
    ∧ t.fgw.postedRaise ∈ t.transit.raises ∧ CapInput.fogCap t.fgw.postedCap ∈ t.transit.caps
    ∧ CapInput.secondary t.fgw.postedSecondary ∈ t.transit.caps

/-! ### The stage hand-out (R133, R134) -/

/-- What the stage hand-out leaves (R133, R134): a stage whose minimum on has not passed stays on; no zone has more on
than it holds or wants; the electric stage cap is kept but for the held stages; where the cap leaves room for every
want, every zone has what it wants. With the stage counts HEAT allows (R124), the room goes to the largest shortfall
first, the lower zone on a tie, and all of it is used while a zone lacks. The highest-numbered stages whose minimum on
has passed turn off, the lowest-numbered that are off turn on with their minimum on loaded. -/
structure HandedOut (s t : State) : Prop where
  held : ∀ (z : Fin 8) (n : Fin 3), s.sph.zones[z].heaters[n].on = true → s.sph.zones[z].heaters[n].minOn.isSome = true →
    t.sph.zones[z].heaters[n] = s.sph.zones[z].heaters[n]
  most : ∀ z : Fin 8, onCount t.sph.zones[z].heaters ≤ max (heldCount s.sph.zones[z].heaters) (wantedCount s z)
  cap : electricCount t ≤ max (heatValues s).stageCap (sumOver 8 fun z => heldCount s.sph.zones[z].heaters)
  enough :
    (sumOver 8 fun z => max (heldCount s.sph.zones[z].heaters) (wantedCount s z)) ≤ (heatValues s).stageCap →
    ∀ z : Fin 8, onCount t.sph.zones[z].heaters
      = min 3 (max (heldCount s.sph.zones[z].heaters) (wantedCount s z))
  order : (∀ z : Fin 8, (zoneValues s z).stageCount ≤ 3) → ∀ y z : Fin 8,
    shortfall s z < shortfall s y ∨ (shortfall s z = shortfall s y ∧ y < z) →
    heldCount s.sph.zones[y].heaters < wantedCount s y →
    heldCount s.sph.zones[z].heaters < onCount t.sph.zones[z].heaters →
    onCount t.sph.zones[y].heaters = wantedCount s y
  used : (∀ z : Fin 8, (zoneValues s z).stageCount ≤ 3) →
    (∃ z : Fin 8, heldCount s.sph.zones[z].heaters < wantedCount s z
      ∧ onCount t.sph.zones[z].heaters < wantedCount s z) →
    electricCount t = max (heatValues s).stageCap (sumOver 8 fun z => heldCount s.sph.zones[z].heaters)
  dropped : ∀ (z : Fin 8) (n m : Fin 3), s.sph.zones[z].heaters[n].on = true → t.sph.zones[z].heaters[n].on = false →
    t.sph.zones[z].heaters[n].minOn = none
    ∧ (n < m → s.sph.zones[z].heaters[m].on = true → s.sph.zones[z].heaters[m].minOn = none →
        t.sph.zones[z].heaters[m].on = false)
  added : ∀ (z : Fin 8) (n m : Fin 3), s.sph.zones[z].heaters[n].on = false → t.sph.zones[z].heaters[n].on = true →
    t.sph.zones[z].heaters[n].minOn = some (heatValues s).minOn
    ∧ (m < n → t.sph.zones[z].heaters[m].on = true)
  kept : ∀ (z : Fin 8) (n : Fin 3), t.sph.zones[z].heaters[n].on = s.sph.zones[z].heaters[n].on →
    t.sph.zones[z].heaters[n] = s.sph.zones[z].heaters[n]
  rest : ∀ z : Fin 8, { t.sph.zones[z] with heaters := s.sph.zones[z].heaters } = s.sph.zones[z]

/-- The state in which the hand-out is taken when zones have entered OFF or INHIBITED (R133, R135): every zone's stages
as they stood, those zones' off. -/
def beforeHandOut (s t : State) (entered : Fin 8 → Bool) : State :=
  { t with sph.zones := Vector.ofFn fun y : Fin 8 =>
      { t.sph.zones[y] with
        heaters := if entered y then Vector.replicate 3 { on := false, minOn := none } else s.sph.zones[y].heaters } }

/-! ### Inputs and gates -/

/-- A set counting input read at a base tick: its phase before and after, and whether a pulse is counted (R72). -/
def PhaseStep (debounce : Nat) (before after : InputPhase) (high counted : Bool) : Prop :=
  (high = false → after = .low ∧ counted = false)
  ∧ (high = true → before = .low →
      (debounce ≤ 1 → after = .held ∧ counted = true) ∧ (1 < debounce → after = .rising 1 ∧ counted = false))
  ∧ (high = true → ∀ n, before = .rising n →
      (debounce ≤ n + 1 → after = .held ∧ counted = true)
      ∧ (n + 1 < debounce → after = .rising (n + 1) ∧ counted = false))
  ∧ (high = true → before = .held → after = .held ∧ counted = false)

/-- A gate's latched level rises in an event. -/
def Rises (s t : State) (g : Fin 14) : Prop := s.cnd.gates[g].level = false ∧ t.cnd.gates[g].level = true

/-- A gate's latched level falls in an event. -/
def Falls (s t : State) (g : Fin 14) : Prop := s.cnd.gates[g].level = true ∧ t.cnd.gates[g].level = false

/-- A gate's latched level changes in an event. -/
def Changes (s t : State) (g : Fin 14) : Prop := t.cnd.gates[g].level ≠ s.cnd.gates[g].level

/-- A zone has entered OFF or INHIBITED by a change of its inhibit gate in an event (R129, R133). -/
def inhibitEntered (s t : State) (z : Fin 8) : Bool :=
  running s && t.cnd.gates[inhibitGate z].level != s.cnd.gates[inhibitGate z].level
    && inhibitActs s.sph.zones[z] t.cnd.gates[inhibitGate z].level && heatless t.sph.zones[z].state

/-- What the consumers do with the gates that changed at a latch (R70): RESURFACE moves the ice (R81), PLANT_BOOST
brings the stage decision (R77, R90), FOG_SEEN moves the level (R145), DOOR_OPEN the row in force (R148),
STROBE_INHIBIT ends a pulse (R158), ZONE_INHIBIT takes its zone out and back (R129). A block none of whose gates
changed stands. A PLANT_BOOST held back since the entry to RUN counts from its next change on (log 36). Zones that
changed together have their demands posted once, one hand-out taken and STANDS formed once at the end of the event
(R132, R133, R136; log 9). -/
structure GatesActed (s t : State) : Prop where
  resurfaceRise : running s = true → Rises s t 0 → s.plt.ice = .practice ∨ s.plt.ice = .game →
    IceChanged s t .resurface (modeOfIce s.plt.ice)
    ∧ note s .iceState 0 (iceCode .resurface) (iceCode s.plt.ice) ∈ t.link.notices
  resurfaceFall : running s = true → Falls s t 0 → s.plt.ice = .resurface →
    IceChanged s t .recover s.plt.prior ∧ note s .iceState 0 (iceCode .recover) (iceCode .resurface) ∈ t.link.notices
  iceStays : ¬(running s = true ∧ Rises s t 0 ∧ (s.plt.ice = .practice ∨ s.plt.ice = .game)) →
    ¬(running s = true ∧ Falls s t 0 ∧ s.plt.ice = .resurface) → t.plt.ice = s.plt.ice ∧ t.plt.prior = s.plt.prior
  plantBoosted : t.plt.ice = s.plt.ice →
    t.plt = { s.plt with stages := t.plt.stages, supply := t.plt.supply, boostHeld := t.plt.boostHeld }
    ∧ SupplyFollows s t
    ∧ t.transit.loads.filter (fun p => loadPosterOf p == .plant)
      = s.transit.loads.filter (fun p => loadPosterOf p == .plant)
    ∧ t.transit.caps.filter (fun c => capPosterOf c == .plant)
      = s.transit.caps.filter (fun c => capPosterOf c == .plant)
  plantUnmoved : t.plt.ice = s.plt.ice → running s = false ∨ ¬Changes s t 5 →
    t.plt = { s.plt with boostHeld := t.plt.boostHeld }
    ∧ t.transit.heats.filter (fun p => heatPosterOf p == .plant)
      = s.transit.heats.filter (fun p => heatPosterOf p == .plant)
  quiet : t.plt.ice = s.plt.ice → t.fgw.level = s.fgw.level → t.link.notices = s.link.notices
  boost : (Changes s t 5 → t.plt.boostHeld = false ∧ (running s = true → decideOnce t = none))
    ∧ (¬Changes s t 5 → t.plt.boostHeld = s.plt.boostHeld)
  fogRise : running s = true → Rises s t 1 → t.fgw.level = .fog ∧ t.fgw.dwell = none
    ∧ (s.fgw.level ≠ .fog → t.fgw.haze = false
        ∧ note s .fogLevel 0 3 (fogRank s.fgw.level).val ∈ t.link.notices ∧ StarveJudged s t)
  fogFall : running s = true → Falls s t 1 → s.fgw.level = .fog →
    t.fgw.level = .fog ∧ Watched (DwellHolds t) (fogValues s).dwell s.fgw.dwell t.fgw.dwell
  fogStays : running s = false ∨ ¬Changes s t 1 → t.fgw.level = s.fgw.level ∧ t.fgw.dwell = s.fgw.dwell
  outputs : running s = true → Changes s t 1 ∨ Changes s t 4 → OutputsFormed t
  outputsPosted : OutputsPosted s t
  fogKept : t.fgw.layers = s.fgw.layers ∧ t.fgw.spread = s.fgw.spread ∧ t.fgw.blind = s.fgw.blind
    ∧ t.fgw.weak = s.fgw.weak ∧ t.fgw.grant = s.fgw.grant ∧ t.fgw.row = s.fgw.row
    ∧ (t.fgw.level = s.fgw.level →
        t.fgw.haze = s.fgw.haze ∧ t.fgw.secondary = s.fgw.secondary ∧ t.fgw.starve = s.fgw.starve)
  fogUnmoved : running s = false ∨ (¬Changes s t 1 ∧ ¬Changes s t 4) →
    t.fgw = { s.fgw with fogSeen := t.fgw.fogSeen, doorOpen := t.fgw.doorOpen }
  lights : t.evl = { s.evl with
    pulse := t.evl.pulse, hazeInhibit := t.evl.hazeInhibit, strobeInhibit := t.evl.strobeInhibit }
  strobeRise : Rises s t 3 → t.evl.pulse = none
  strobeStays : ¬Rises s t 3 → t.evl.pulse = s.evl.pulse
  zoneRise : ∀ z : Fin 8, running s = true → Rises s t (inhibitGate z) →
    s.sph.zones[z].state = .preheat ∨ s.sph.zones[z].state = .occupied ∨ s.sph.zones[z].state = .setback →
    t.sph.zones[z].state = .inhibited ∧ t.sph.zones[z].remembered = some s.sph.zones[z].state
    ∧ t.sph.zones[z].preheat = none ∧ t.sph.zones[z].raw = 0 ∧ t.sph.zones[z].demand = 0
    ∧ onCount t.sph.zones[z].heaters = 0
  zoneFall : ∀ z : Fin 8, running s = true → Falls s t (inhibitGate z) → s.sph.zones[z].state = .inhibited →
    ∀ back, s.sph.zones[z].remembered = some back →
    t.sph.zones[z].state = (if back = .preheat ∧ meetsBand s z = true then .occupied else back)
    ∧ t.sph.zones[z].remembered = none
    ∧ t.sph.zones[z].preheat = (if t.sph.zones[z].state = .preheat then some (zoneValues s z).preheat else none)
    ∧ t.sph.zones[z].raw = rawAt s z t.sph.zones[z].state s.sph.zones[z].target s.sph.zones[z].raw
    ∧ t.sph.zones[z].demand = t.sph.zones[z].raw * zoneCap s z / 100
  zonesPosted : ZonesPosted s t
  zonesEntered : (∃ z : Fin 8, inhibitEntered s t z = true) →
    HandedOut (beforeHandOut s t (inhibitEntered s t)) t ∧ t.sph.stands = standsFigure t ∧ StandsPosted s t
  zonesKept : (∀ z : Fin 8, inhibitEntered s t z = false) →
    t.sph.stands = s.sph.stands ∧ StandsPosted s t ∧ ∀ z : Fin 8, t.sph.zones[z].heaters = s.sph.zones[z].heaters
  zoneStays : ∀ z : Fin 8,
    ¬(running s = true ∧ Rises s t (inhibitGate z) ∧ (s.sph.zones[z].state = .preheat
      ∨ s.sph.zones[z].state = .occupied ∨ s.sph.zones[z].state = .setback)) →
    ¬(running s = true ∧ Falls s t (inhibitGate z) ∧ s.sph.zones[z].state = .inhibited) →
    { t.sph.zones[z] with heaters := s.sph.zones[z].heaters } = s.sph.zones[z]

/-- A zone as a ZONE SET that asks for a state leaves it (R128 to R136): INHIBITED remembers the state asked for; a
zone leaving OFF under an active inhibit gate enters INHIBITED; in both its preheat timer is idle until the return; its
demand is formed again and posted if it changed; an
entry to OFF or INHIBITED turns its stages off and brings the hand-out and STANDS. -/
structure ZoneSetTo (s t : State) (z : Fin 8) (target : Option Int) (dest : ZoneState) : Prop where
  aim : t.sph.zones[z].target = target
  inhibited : s.sph.zones[z].state = .inhibited →
    t.sph.zones[z].state = .inhibited ∧ t.sph.zones[z].remembered = some dest ∧ t.sph.zones[z].preheat = none
  gated : s.sph.zones[z].state = .off → dest ≠ .off → gateLevel s (inhibitGate z) = true →
    t.sph.zones[z].state = .inhibited ∧ t.sph.zones[z].remembered = some dest ∧ t.sph.zones[z].preheat = none
    ∧ onCount t.sph.zones[z].heaters = 0
  entered : s.sph.zones[z].state ≠ .inhibited →
    ¬(s.sph.zones[z].state = .off ∧ dest ≠ .off ∧ gateLevel s (inhibitGate z) = true) →
    t.sph.zones[z].state = dest ∧ t.sph.zones[z].remembered = none
    ∧ (dest = .off → onCount t.sph.zones[z].heaters = 0)
    ∧ t.sph.zones[z].preheat =
      if dest = .preheat then
        (if s.sph.zones[z].state = .preheat then s.sph.zones[z].preheat else some (zoneValues s z).preheat)
      else none
  raw : t.sph.zones[z].raw =
    match t.sph.zones[z].state with
    | .preheat => (zoneValues s z).max
    | .off | .inhibited => 0
    | .occupied => heldDemand s z (target.getD 0)
    | .setback => heldDemand s z (zoneValues s z).setback
  demand : t.sph.zones[z].demand = t.sph.zones[z].raw * zoneCap s z / 100
  others : ∀ y, y ≠ z → t.sph.zones[y].state = s.sph.zones[y].state ∧ t.sph.zones[y].demand = s.sph.zones[y].demand
    ∧ t.sph.zones[y].target = s.sph.zones[y].target ∧ t.sph.zones[y].grant = s.sph.zones[y].grant
  posted : DemandsPosted s t
  entry : s.sph.zones[z].state ≠ .inhibited → t.sph.zones[z].state = .off ∨ t.sph.zones[z].state = .inhibited →
    HandedOut (beforeHandOut s t fun y => y == z) t ∧ t.sph.stands = standsFigure t
    ∧ t.transit.loads = (if standsFigure t = s.sph.stands then s.transit.loads
        else s.transit.loads ++ [.stands (standsFigure t)])
  noEntry : s.sph.zones[z].state = .inhibited ∨ (t.sph.zones[z].state ≠ .off ∧ t.sph.zones[z].state ≠ .inhibited) →
    t.sph.stands = s.sph.stands ∧ t.transit.loads = s.transit.loads
    ∧ ∀ y : Fin 8, t.sph.zones[y].heaters = s.sph.zones[y].heaters

/-- The state a row's pass leaves: its state by R118, its valve by R120. -/
def RowFinished (row : HeatRow) : Prop :=
  row.state = rowStateOf row.demand row.grant
  ∧ row.valve = if row.max = 0 then 0 else row.grant * 100 / row.max

/-- The supply shared by class (R116, R117). For each class, with what the better classes left: it is served in full
when that covers it; else all of it goes to the class, each row with its whole-part share of it or 1 kW more, the rows
that got 1 kW more being the first ones that had room. -/
def SharedByClass (supply : Nat) (rows : Vector HeatRow 11) : Prop :=
  ∀ c : Nat, c ≤ 4 →
    let left := supply - sumOver 11 fun r => if rows[r].cls < c then rows[r].grant else 0
    let demand := sumOver 11 fun r => if rows[r].cls = c then rows[r].demand else 0
    (demand ≤ left → ∀ r : Fin 11, rows[r].cls = c → rows[r].grant = rows[r].demand)
    ∧ (left < demand →
      (sumOver 11 fun r => if rows[r].cls = c then rows[r].grant else 0) = left
      ∧ (∀ r : Fin 11, rows[r].cls = c →
          rows[r].grant = left * rows[r].demand / demand ∨ rows[r].grant = left * rows[r].demand / demand + 1)
      ∧ (∀ q r : Fin 11, q < r → rows[q].cls = c → rows[r].cls = c →
          left * rows[q].demand / demand < rows[q].demand →
          rows[r].grant = left * rows[r].demand / demand + 1 →
          rows[q].grant = left * rows[q].demand / demand + 1))

/-- The HEAT_SHORTFALL notices of a pass: one for each row that enters STARVED, in row order (R119). -/
def shortfallNotices (s t : State) : List Notice :=
  (List.finRange 11).filterMap fun r : Fin 11 =>
    if t.hat.rows[r].state = .starved ∧ s.hat.rows[r].state ≠ .starved then
      some (note s .heatShortfall r.val t.hat.rows[r].demand t.hat.rows[r].cls)
    else none

/-- What an allocation pass leaves beside its notices (R115 to R118, R120, R121; the waiting hand-backs are log 3). -/
structure PassMade (s t : State) : Prop where
  used : t.hat.used = t.hat.supply
  whole : (sumOver 11 fun r => t.hat.rows[r].grant) + t.hat.rejected = t.hat.supply
  shared : SharedByClass t.hat.supply t.hat.rows
  within : ∀ r : Fin 11, t.hat.rows[r].grant ≤ t.hat.rows[r].demand
  rows : ∀ r : Fin 11, RowFinished t.hat.rows[r]
  reject : t.hat.rejectValve = if t.hat.supply = 0 then 100 else t.hat.rejected * 100 / t.hat.supply
  short : t.hat.heatShort = true ↔
    ∃ r : Fin 11, 2 ≤ r.val ∧ r.val ≤ 9 ∧ 0 < t.hat.rows[r].demand ∧ t.hat.rows[r].state ≠ .satisfied
  zones : t.transit.zoneGrants = s.transit.zoneGrants ++ [zoneGrantsOf t.hat.rows]
  desiccant : t.transit.desiccants = s.transit.desiccants ++ [(t.hat.rows[1].grant, t.hat.rows[1].state)]

/-- What an event that is an allocation pass leaves, its notices those of the pass alone (R115 to R121). -/
structure Passed (s t : State) : Prop where
  made : PassMade s t
  notices : t.link.notices = joinAll s.link.notices (shortfallNotices s t)

/-! ### Settle ends in the jobs -/

/-- What a PLANT settle end in RUN, NIGHT_HOLD or FALLBACK leaves of `u`, the state in which the updates of the groups
whose records it changed have been taken (R43, log 21): the raise and what follows it, the soft watch judged at a change
of the applied raise, heat side and stages, the whole update on its way, and nothing else of what the updates bring
(R76, R84, R86; the waiting transfers are log 3). -/
structure PlantSettled (u t : State) : Prop where
  watch : (t.plt.applied = u.plt.applied → t.plt.softWatch = u.plt.softWatch)
    ∧ (t.plt.applied ≠ u.plt.applied → Watched (SoftHolds t) (plantValues t).softDelay u.plt.softWatch t.plt.softWatch)
  plant : t.plt = { u.plt with
    applied := t.plt.applied, softWatch := t.plt.softWatch, brineOut := t.plt.brineOut, derate := t.plt.derate,
    supply := t.plt.supply, subfloor := t.plt.subfloor, stages := t.plt.stages }
  records : ∀ (g : Group) (k : Fin 8), reading t g k = reading u g k
  loads : t.transit.loads = u.transit.loads ++ [.plant
    { base := some (modeValues t).baseLoad, resurface := some (resurfaceEntry t), fogRaise := some (fogRaise t),
      factor := some (modeValues t).factor, capacity := some (notLockedCapacity t),
      crowd := some (plantValues t).crowd, reserve := some (plantValues t).reserve,
      exitMargin := some (plantValues t).exitMargin }]
  others : t.fgw = u.fgw ∧ t.sph = u.sph ∧ t.cnd.thresholds = u.cnd.thresholds ∧ t.transit.raises = u.transit.raises
    ∧ t.transit.caps = u.transit.caps

/-- What a FOG settle end in RUN, NIGHT_HOLD or FALLBACK does in the fog watch (R140): the spreads formed where the
event changed a group B record, the level judged under the new values, weakness and the starve condition judged, by the
level's own change (R147) and after the weakness, and the outputs formed and posted once. -/
structure FogSettled (s t : State) : Prop where
  formed : qualityDiffers s t .b = true → SpreadsFormed t ∧ BlindJudged s t
  kept : qualityDiffers s t .b = false →
    t.fgw.layers = s.fgw.layers ∧ t.fgw.spread = s.fgw.spread ∧ t.fgw.blind = s.fgw.blind
  level : LevelJudged s t
  weak : t.fgw.weak = true ↔ WeakHolds t
  starve : StarveJudgedTwice s t
  outputs : OutputsFormed t ∧ OutputsPosted s t

/-- What a HEAT settle end in RUN, NIGHT_HOLD or FALLBACK does in spectator heating (R125): the demands formed again
under the new values, with the band that a changed group D record meets (R128), and the changed ones posted together;
the stages above their zone's count off, and from the top those above the cap; STANDS formed again and posted if it
changed. -/
structure HeatSettled (s t : State) : Prop where
  zones : ∀ z : Fin 8,
    let meets := qualityDiffers s t .d = true ∧ s.sph.zones[z].state = .preheat
      ∧ ∃ x, usableValue t .d z = some x ∧ s.sph.zones[z].target.getD 0 - 50 ≤ x
    (meets → t.sph.zones[z].state = .occupied ∧ t.sph.zones[z].preheat = none ∧ t.sph.zones[z].remembered = none)
    ∧ (¬meets → t.sph.zones[z].state = s.sph.zones[z].state ∧ t.sph.zones[z].preheat = s.sph.zones[z].preheat
        ∧ t.sph.zones[z].remembered = s.sph.zones[z].remembered)
    ∧ t.sph.zones[z].target = s.sph.zones[z].target ∧ t.sph.zones[z].grant = s.sph.zones[z].grant
    ∧ t.sph.zones[z].raw = rawAt t z t.sph.zones[z].state s.sph.zones[z].target s.sph.zones[z].raw
    ∧ t.sph.zones[z].demand = t.sph.zones[z].raw * zoneCap t z / 100
  posted : DemandsPosted s t
  stage : ∀ (z : Fin 8) (n : Fin 3),
    t.sph.zones[z].heaters[n] = s.sph.zones[z].heaters[n] ∨ t.sph.zones[z].heaters[n] = { on := false, minOn := none }
  above : ∀ (z : Fin 8) (n : Fin 3), (zoneValues t z).stageCount ≤ n.val → t.sph.zones[z].heaters[n].on = false
  capped : electricCount t ≤ (heatValues t).stageCap
  dropped : ∀ (z : Fin 8) (n : Fin 3), n.val < (zoneValues t z).stageCount → s.sph.zones[z].heaters[n].on = true →
    t.sph.zones[z].heaters[n].on = false → electricCount t = (heatValues t).stageCap
      ∧ ∀ (y : Fin 8) (m : Fin 3), z < y ∨ (y = z ∧ n < m) → t.sph.zones[y].heaters[m].on = false
  stands : t.sph.stands = standsFigure t
  standsPosted : t.transit.loads
    = if standsFigure t = s.sph.stands then s.transit.loads else s.transit.loads ++ [.stands (standsFigure t)]

/-- Cues with a fade of 0 and a follow of 0: the follow expires in the event of the start (R169, R170). -/
def Chains (c : CueRecord) : Prop := c.fade = 0 ∧ c.follow = some 0

/-- No channel is named twice in the record, as the memory keeps it (R159). -/
def OneEach (c : CueRecord) : Prop := (c.entries.map Prod.fst).Nodup

/-- A cue has started with a fraction and an admitted load (R169): what the rule names has changed, the posted queue
and the rest of event lighting stand (the deferred slot is told by `Displaced`); with a fade of 0 its levels stand at
once and the fade end has come in the same event, a follow of 0 still to be made (R170). The waiting posting of the
lighting load is log 3. -/
structure Started (s t : State) (c : CueRecord) (f load : Nat) : Prop where
  recent : t.evl.recent = some { list := c.list, number := c.number, load := load, follow := c.follow }
  position : t.evl.position = some (c.list, c.number)
  play : t.evl.play = if c.fade = 0 then .waiting else .fading
  timers : t.evl.fadeEnd = (if c.fade = 0 then none else some c.fade)
    ∧ t.evl.follow = (if c.fade = 0 ∧ c.follow ≠ some 0 then c.follow else none) ∧ t.evl.releaseTimer = none
  lighting : t.evl.lightLoad = if c.fade = 0 then load else max s.evl.lightLoad load
  posting : t.transit.loads =
    if t.evl.lightLoad = s.evl.lightLoad then s.transit.loads else s.transit.loads ++ [.lighting t.evl.lightLoad]
  named : ∀ (ch : Fin 24) (level : Nat), (ch, level) ∈ c.entries →
    t.evl.dimmers[ch] =
      if c.fade = 0 then { s.evl.dimmers[ch] with driven := true, working := level * f / 1000, fade := none }
      else { s.evl.dimmers[ch] with
        driven := true,
        fade := some { start := s.evl.dimmers[ch].working, goal := level * f / 1000, elapsed := 0, duration := c.fade } }
  unnamed : ∀ ch : Fin 24, ch ∉ c.entries.map Prod.fst →
    (c.fade ≠ 0 ∨ (∀ x, s.evl.dimmers[ch].fade = some x → x.elapsed < x.duration) →
      t.evl.dimmers[ch] = s.evl.dimmers[ch])
    ∧ (c.fade = 0 → ∀ x, s.evl.dimmers[ch].fade = some x → x.duration ≤ x.elapsed →
      t.evl.dimmers[ch] = { s.evl.dimmers[ch] with working := x.goal, fade := none })
  effects : t.evl.want0 = c.e0.getD s.evl.want0 ∧ t.evl.want2 = c.e2.getD s.evl.want2
    ∧ t.evl.want3 = c.e3.getD s.evl.want3
  queue : t.evl.posted = s.evl.posted
  rest : t.evl = { s.evl with
      recent := t.evl.recent, position := t.evl.position, play := t.evl.play, fadeEnd := t.evl.fadeEnd,
      follow := t.evl.follow, releaseTimer := t.evl.releaseTimer, lightLoad := t.evl.lightLoad,
      dimmers := t.evl.dimmers, want0 := t.evl.want0, want2 := t.evl.want2, want3 := t.evl.want3,
      deferred := t.evl.deferred }
    ∧ t.transit = { s.transit with loads := t.transit.loads }

/-- The deferred slot at a cue start (R169 step 1): another cue in it is dropped as DISPLACED, the cue itself stays
(log 26). -/
def Displaced (s t : State) (c : CueRecord) : Prop :=
  (∀ d, s.evl.deferred = some d → ¬(d.list = c.list ∧ d.number = c.number) →
    t.evl.deferred = none ∧ note s .cueDropped d.list d.number 0 ∈ t.link.notices)
  ∧ (∀ d, s.evl.deferred = some d → d.list = c.list → d.number = c.number → t.evl.deferred = some d)
  ∧ (s.evl.deferred = none → t.evl.deferred = none)

/-- A cue has entered the deferred slot (R168): what stood in it is dropped as DISPLACED, and nothing else in event
lighting changes. -/
def DeferredInto (s t : State) (c : CueRecord) : Prop :=
  t.evl = { s.evl with
    deferred := some { list := c.list, number := c.number, left := (lightValues s).deferLimit, spent := 0 } }
  ∧ t.transit = s.transit
  ∧ ∀ d, s.evl.deferred = some d → note s .cueDropped d.list d.number 0 ∈ t.link.notices

/-- Admission without GO's reply, by the table's test and the cue's policy (R166, R167): `runs f load P` says of a start
with that fraction and load, after which P. -/
def AdmittedBy (runs : Nat → Nat → (State → Prop) → Prop) (s t : State) (c : CueRecord) : Prop :=
  let test := s.ilt.test c.load
  (test.admitted = true ∨ c.policy = .force → runs 1000 c.load fun _ => True)
  ∧ (test.admitted = false → c.policy = .trim →
      let f := bestFraction s.ilt c.load 1000
      runs f ((c.load * f + 999) / 1000) fun u => note s .cueTrimmed c.list c.number f ∈ u.link.notices)
  ∧ (test.admitted = false → c.policy = .defer →
      DeferredInto s t c ∧ note s .cueDeferred c.list c.number c.load ∈ t.link.notices)

/-- The cue that GO NEXT or a follow names: the lowest number of the position's list above the position (R164). -/
def NextCue (s : State) (c : CueRecord) : Prop :=
  ∃ list number, s.evl.position = some (list, number) ∧ c ∈ s.evl.memory ∧ c.list = list ∧ number < c.number
    ∧ ∀ d ∈ s.evl.memory, d.list = list → number < d.number → c.number ≤ d.number

/-- GO NEXT names no cue: no position, or none of its list above it (R164). -/
def NoNextCue (s : State) : Prop :=
  ∀ list number, s.evl.position = some (list, number) → ∀ d ∈ s.evl.memory, d.list = list → d.number ≤ number

/-- The cue that a GO names (R164). -/
def NamedBy (row : Instr) (s : State) (items : List Item) (c : CueRecord) : Prop :=
  (row = .goCue ∧ findCue s.evl.memory (natOf items 0x10) (natOf items 0x11) = some c) ∨ (row = .goNext ∧ NextCue s c)

/-- A GO names no cue. -/
def NamesNone (row : Instr) (s : State) (items : List Item) : Prop :=
  (row = .goCue ∧ findCue s.evl.memory (natOf items 0x10) (natOf items 0x11) = none) ∨ (row = .goNext ∧ NoNextCue s)

/-- An entry has joined the posted queue: after every entry due at or before it, before the first due later (R164). -/
def Joined (before after : List PostedCue) (e : PostedCue) : Prop :=
  ∃ front back, before = front ++ back ∧ after = front ++ e :: back ∧ (∀ x ∈ front, x.left ≤ e.left)
    ∧ ∀ x, back.head? = some x → e.left < x.left

/-- The cue memory holds at most 256 records in rising order of list and number, at most 64 of one list, and a write in
progress has room (R159, R160). -/
def CueMemoryFits (s : State) : Prop :=
  s.evl.memory.Pairwise (fun a b => cueBefore a b = true) ∧ s.evl.memory.length ≤ 256
  ∧ (∀ list, (listCues s.evl.memory list).length ≤ 64)
  ∧ (∀ tag c left, s.link.dispatcher = .storing tag c left → noRoomFor s.evl.memory c = false)

/-- The internal GO NEXT of a follow (R170): nothing, or the cue posted, or dropped for want of a place, or admitted.
Of a next cue that chains further, nothing is said here. -/
structure FollowMade (s t : State) : Prop where
  nothing : NoNextCue s → t.evl = s.evl ∧ t.transit = s.transit
  full : ∀ c, NextCue s c → 0 < c.post → 4 ≤ s.evl.posted.length →
    t.evl = s.evl ∧ note s .cueDropped c.list c.number 4 ∈ t.link.notices
  posted : ∀ c, NextCue s c → 0 < c.post → s.evl.posted.length < 4 →
    Joined s.evl.posted t.evl.posted { list := c.list, number := c.number, left := c.post }
    ∧ t.evl = { s.evl with posted := t.evl.posted }
  admitted : ∀ c, NextCue s c → c.post = 0 → OneEach c → ¬Chains c →
    AdmittedBy (fun f load P => Started s t c f load ∧ Displaced s t c ∧ P t) s t c

/-- What playback reads beside its own record is the same in two states. -/
def SamePlaybackInputs (s t : State) : Prop :=
  t.ilt = s.ilt ∧ t.tick = s.tick ∧ t.evl.profile = s.evl.profile ∧ t.evl.memory = s.evl.memory
  ∧ t.evl.posted = s.evl.posted

/-- A cue runs from a start (R169, R170): it has started, and P holds then; where its fade and follow are both 0, the
follow's GO NEXT has been made after that. -/
def CueRuns (s t : State) (c : CueRecord) (f load : Nat) (P : State → Prop) : Prop :=
  (¬Chains c → Started s t c f load ∧ P t)
  ∧ (CueMemoryFits s → Chains c → ∃ u, Started s u c f load ∧ P u ∧ SamePlaybackInputs s u ∧ FollowMade u t)

/-- The state a fade end leaves before its follow (R170; the waiting posting of the lighting load is log 3). -/
def afterFadeEnd (s : State) (load : Nat) : State :=
  { s with
    evl.fadeEnd := none, evl.play := .waiting, evl.lightLoad := load,
    evl.dimmers := Vector.ofFn fun ch : Fin 24 =>
      match s.evl.dimmers[ch].fade with
      | none => s.evl.dimmers[ch]
      | some x =>
        if x.duration ≤ x.elapsed then { s.evl.dimmers[ch] with working := x.goal, fade := none }
        else s.evl.dimmers[ch],
    transit.loads :=
      if load = s.evl.lightLoad then s.transit.loads else s.transit.loads ++ [.lighting load] }

/-! ### Replies to the reads, figure by figure (what goes packed under one id is log 11, 17, 35) -/

/-- STATUS READ's reply (R16); the request itself is no longer in the intake. -/
def statusReply (s : State) : List (Nat × List Byte) :=
  [(0x10, ub 1 (partCode s.ops.part)), (0x11, ub 1 (resetCode s.ops.resetCause) ++ flag s.ops.powerFlag),
   (0x12, ub 1 (statusCode s.ops.plant.status)), (0x12, ub 1 (statusCode s.ops.fog.status)),
   (0x12, ub 1 (statusCode s.ops.heat.status)), (0x12, ub 1 (statusCode s.ops.light.status)),
   (0x13, ub 1 s.link.faults.stopBit ++ ub 1 s.link.faults.gap ++ ub 1 s.link.faults.length
     ++ ub 1 s.link.faults.check ++ ub 1 (faultCode s.link.faults.last)),
   (0x14, flag s.link.noticesLost), (0x15, ub 1 s.link.notices.length), (0x16, ub 1 s.link.intake.tail.length)]

/-- BATCH READ's record of a channel (R49, R177). -/
def recordReply (s : State) (g : Group) (k : Fin 8) : List Byte :=
  ub 1 k.val ++ sb 2 (reading s g k).value ++ ub 1 (qualityCode (reading s g k).quality) ++ ub 2 (reading s g k).age

/-- A cell's mode and stored items as CELL READ carries them (R69): an item the mode does not take is none, a slot it
does not use FALSE. -/
def storedCell : CellConfig → List Byte
  | .none => [0, 0, 0, 0, 0xFF, 0xFF, 0xFF, 0xFF, 0xFF]
  | .table a b c outcomes =>
    [1] ++ ub 1 a.val ++ ub 1 b.val ++ ub 1 c.val ++ ub 1 outcomes.toNat ++ [0xFF, 0xFF, 0xFF, 0xFF]
  | .delay a n k e => [2] ++ ub 1 a.val ++ [0, 0, 0xFF] ++ ub 2 n ++ ub 1 (clockCode k) ++ ub 1 (edgeCode e)
  | .oneshot a n k e => [3] ++ ub 1 a.val ++ [0, 0, 0xFF] ++ ub 2 n ++ ub 1 (clockCode k) ++ ub 1 (edgeCode e)
  | .rate a n k e => [4] ++ ub 1 a.val ++ [0, 0, 0xFF] ++ ub 2 n ++ ub 1 (clockCode k) ++ ub 1 (edgeCode e)
  | .edge a k e => [5] ++ ub 1 a.val ++ [0, 0, 0xFF, 0xFF, 0xFF] ++ ub 1 (clockCode k) ++ ub 1 (edgeCode e)
  | .count b c n k => [6, 0] ++ ub 1 b.val ++ ub 1 c.val ++ [0xFF] ++ ub 2 n ++ ub 1 (clockCode k) ++ [0xFF]

/-- A timer cell's phase and count as CELL READ carries them (R69): IDLE 0, PENDING 1, PULSE 2, OPEN 3, COUNTING 4. -/
def cellTimer (c : Cell) : List Byte :=
  match c.config, c.phase with
  | .none, _ | .table .., _ => [0xFF, 0xFF, 0xFF]
  | .count .., _ => [if c.n = 0 then 0 else 4] ++ ub 2 c.n
  | _, .idle => [0] ++ ub 2 c.n
  | _, .pending _ => [1] ++ ub 2 c.n
  | _, .pulse => [2] ++ ub 2 c.n
  | _, .open => [3] ++ ub 2 c.n

/-- CELL READ's reply (R69). -/
def cellReply (s : State) (k : Fin 16) : List (Nat × List Byte) :=
  let c := s.cnd.cells[k]
  let levels : List Bool :=
    match c.config with
    | .none => []
    | .table .. => [c.seen0, c.seen1, c.seen2]
    | .count .. => [c.seen1, c.seen2]
    | _ => [c.seen0]
  [(0x10, storedCell c.config), (0x11, flag c.out ++ flag c.tickView)]
  ++ levels.map (fun b => (0x12, flag b))
  ++ [(0x13, cellTimer c)]
  ++ (List.finRange 8).map (fun i : Fin 8 => (0x14, flag s.cnd.fi[i]))
  ++ (List.finRange 8).map (fun i : Fin 8 => (0x15, flag s.cnd.thresholds[i].active))
  ++ (List.finRange 14).map (fun g : Fin 14 => (0x16, flag s.cnd.gates[g].level))
  ++ [(0x17, ub 2 s.cnd.occupancy), (0x18, ub 2 s.cnd.surge.length), (0x19, flag s.cnd.crowdSurge)]

/-- PLANT READ's reply (R98). -/
def plantReply (s : State) : List (Nat × List Byte) :=
  [(0x10, ub 1 (iceCode s.plt.ice) ++ optU 1 (s.plt.prior.map fun m => iceCode (iceOfMode m))),
   (0x11, sb 2 s.plt.request ++ sb 2 s.plt.applied ++ sb 2 (bandLow s) ++ sb 2 (bandHigh s)
     ++ sb 2 (bandLow s - (plantValues s).approach)),
   (0x12, optTemp s.plt.mean ++ ub 1 ((List.finRange 8).filter fun k => (usableValue s .a k).isSome).length),
   (0x13, ub 2 (surfaceCorrection s) ++ ub 2 (boost s) ++ flag s.cnd.gates[5].level),
   (0x14, ub 2 (requiredCapacity s).toNat ++ ub 2 (onlineCapacity s)),
   (0x15, ub 2 (s.plt.softWatch.getD 0) ++ ub 2 (s.plt.softClear.getD 0) ++ ub 2 (s.plt.recover.getD 0))]
  ++ (List.finRange 6).map (fun n =>
      let st := s.plt.stages[n]
      (0x16, ub 1 (stageCode st.state) ++ ub 1 (lockCode st.cause) ++ ub 2 st.ticks ++ flag st.confirm
        ++ ub 2 (match st.startTimer with | some n => n | none => st.stopTimer.getD 0)))
  ++ [(0x17, ub 1 s.plt.derate ++ ub 2 s.plt.supply ++ ub 2 s.plt.subfloor)]

/-- LOAD TABLE READ's reply (R110). -/
def loadTableReply (s : State) : List (Nat × List Byte) :=
  let t := s.ilt
  [(0x10, sb 2 t.base), (0x10, sb 2 t.crowd), (0x10, sb 2 t.lighting), (0x10, sb 2 t.stands), (0x10, sb 2 t.resurface),
   (0x10, sb 2 t.fogRaise),
   (0x11, ub 2 t.lightLoad ++ ub 1 t.factor), (0x12, ub 2 t.occupancy ++ optU 2 t.crowdPer),
   (0x13, sb 4 t.rawSum ++ ub 2 t.total.toNat),
   (0x14, ub 2 t.capacity ++ optU 2 t.reserve ++ ub 2 t.admission.toNat),
   (0x15, sb 2 (t.admission - t.rawSum + t.lighting)),
   (0x16, flag t.overBudget ++ optU 2 t.exitMargin ++ sb 2 (t.admission - (t.exitMargin.getD 0 : Nat))),
   (0x17, ub 2 (t.dwell.getD 0)), (0x18, flag t.hold.isSome)]

/-- HEAT TABLE READ's reply (R123). -/
def heatTableReply (s : State) : List (Nat × List Byte) :=
  [(0x10, ub 2 s.hat.supply ++ ub 2 s.hat.used)]
  ++ (List.finRange 11).map (fun r : Fin 11 =>
      let row := s.hat.rows[r]
      (0x11, ub 1 row.cls ++ ub 2 row.posted ++ ub 2 row.max ++ ub 2 row.demand ++ ub 2 row.grant
        ++ ub 1 (rowCode row.state) ++ ub 1 row.valve))
  ++ [(0x12, ub 2 s.hat.rejected ++ ub 1 s.hat.rejectValve), (0x13, flag s.hat.heatShort)]

/-- ZONE READ's reply (R138). -/
def zoneReply (s : State) (z : Fin 8) : List (Nat × List Byte) :=
  let zone := s.sph.zones[z]
  let v := zoneValues s z
  let cap :=
    if v.nearIce = false then 100
    else if s.sph.soft = true ∨ s.sph.secondary = true then 0
    else min (min 100 s.sph.fogCap) (if s.sph.overBudget then (heatValues s).budgetCap else 100)
  let short := if zone.state = .off ∨ zone.state = .inhibited then 0 else zone.demand - zone.grant
  let wanted := min ((short + (v.stageKw - 1)) / v.stageKw) v.stageCount
  [(0x10, ub 1 (zoneCode zone.state) ++ optU 1 (zone.remembered.map zoneCode) ++ optTemp zone.target
      ++ flag v.nearIce ++ sb 2 (reading s .d z).value ++ ub 1 (qualityCode (reading s .d z).quality)
      ++ ub 2 (zone.preheat.getD 0) ++ ub 2 zone.raw ++ ub 1 cap ++ ub 2 zone.demand ++ ub 2 zone.grant
      ++ ub 1 (rowCode zone.row) ++ ub 2 short ++ ub 1 wanted)]
  ++ (List.finRange 3).map (fun n : Fin 3 => (0x11, flag zone.heaters[n].on ++ ub 2 (zone.heaters[n].minOn.getD 0)))
  ++ [(0x12, ub 1 (electricCount s) ++ ub 1 (heatValues s).stageCap ++ ub 1 s.sph.fogCap ++ flag s.sph.secondary
        ++ flag s.sph.overBudget ++ flag s.sph.soft ++ ub 2 s.sph.stands)]

/-- FOG READ's reply (R152). -/
def fogReply (s : State) : List (Nat × List Byte) :=
  let f := s.fgw
  let p := fogValues s
  let rank := (fogRank f.level).val
  [(0x10, ub 1 rank ++ optDiff f.spread)]
  ++ (List.finRange 4).map (fun k : Fin 4 => (0x11, optDiff f.layers[k]))
  ++ [(0x12, sb 2 p.watchAt ++ sb 2 p.alertAt ++ sb 2 p.fogAt ++ sb 2 p.hysteresis),
      (0x13, flag f.fogSeen ++ flag f.doorOpen ++ ub 1 (if f.doorOpen then min 3 (rank + 1) else rank)),
      (0x14, ub 2 (f.dwell.getD 0) ++ ub 2 (f.blind.getD 0) ++ ub 2 (f.starve.getD 0)),
      (0x15, flag f.secondary ++ flag f.weak), (0x16, ub 2 f.grant ++ ub 1 (rowCode f.row)),
      (0x17, ub 2 f.postedDemand ++ ub 1 f.postedClass ++ sb 2 f.postedRaise ++ ub 1 f.postedCap ++ flag f.haze),
      (0x18, ub 1 f.fan)]
  ++ [0, 1, 2, 3, 4, 5].map fun k : Fin 8 =>
      (0x19, sb 2 (reading s .e k).value ++ ub 1 (qualityCode (reading s .e k).quality))

/-- PLAYBACK READ's reply (R173). -/
def playbackReply (s : State) : List (Nat × List Byte) :=
  let e := s.evl
  [(0x10, ub 1 (playCode e.play)
      ++ optU 1 (e.position.map Prod.fst) ++ optU 2 (e.position.map Prod.snd)
      ++ optU 1 (e.recent.map RecentCue.list) ++ optU 2 (e.recent.map RecentCue.number)
      ++ optU 2 (e.recent.map RecentCue.load)),
   (0x11, ub 2 (e.fadeEnd.getD 0) ++ ub 2 (e.follow.getD 0) ++ ub 2 (e.releaseTimer.getD 0)), (0x12, ub 2 e.lightLoad)]
  ++ e.posted.map (fun x => (0x13, ub 1 x.list ++ ub 2 x.number ++ ub 4 (s.tick + BitVec.ofNat 32 x.left).toNat))
  ++ [(0x14, optU 1 (e.deferred.map DeferredCue.list) ++ optU 2 (e.deferred.map DeferredCue.number)
        ++ optU 2 (e.deferred.map DeferredCue.left))]
  ++ (List.finRange 24).map (fun ch : Fin 24 =>
      let d := e.dimmers[ch]
      (0x15, flag d.driven ++ ub 2 d.working ++ ub 2 d.applied ++ optU 1 (d.cls.map Fin.val)
        ++ optU 2 (d.fade.map Fade.goal) ++ optU 2 (d.fade.map fun f => f.duration - f.elapsed)))
  ++ [(0x16, flag e.want0 ++ flag e.want2 ++ flag e.want3 ++ flag (lineE0 s) ++ flag (lineE1 s) ++ flag (lineE2 s)
        ++ flag (lineE3 s) ++ flag s.fgw.haze ++ flag e.hazeInhibit ++ flag e.strobeInhibit
        ++ ub 2 (e.sinceFlash.getD 65535))]

/-! ### Invariants -/

/-- The queues of the manual keep their capacities: notices 32, intake 4, reply path 4 with a place kept for the reply
of a cue memory write in progress, posted queue 4 (R5, R7, R10, R13, R164). -/
def QueuesFit (s : State) : Prop :=
  s.link.notices.length ≤ 32 ∧ s.link.intake.length ≤ 4 ∧ s.link.replies.length ≤ 4
  ∧ (∀ tag c left, s.link.dispatcher = .storing tag c left → s.link.replies.length ≤ 3)
  ∧ (∀ tag list left, s.link.dispatcher = .erasing tag list left → s.link.replies.length ≤ 3)
  ∧ s.evl.posted.length ≤ 4

/-- The prior state is none exactly in the four host-chosen ice states (R78). -/
def PriorStateRule (s : State) : Prop := s.plt.prior = none ↔ (modeOfIce s.plt.ice).isSome = true

/-- At most one compressor stage is STARTING (R90). -/
def OneStarting (s : State) : Prop :=
  ∀ m n : Fin 6, s.plt.stages[m].state = .starting → s.plt.stages[n].state = .starting → m = n

/-- The haze permission is off exactly at ALERT and FOG (R147). -/
def HazeFollowsLevel (s : State) : Prop := s.fgw.haze = !foggy s.fgw.level

/-- The grants of the rows and the rejected heat make up the supply used, no row is granted more than its demand, and
before the first pass all of these are 0; every class is one of 0 to 4, held or on its way (R111, R113, R116). -/
def HeatAccounted (s : State) : Prop :=
  (sumOver 11 fun r => s.hat.rows[r].grant) + s.hat.rejected = s.hat.used
  ∧ (∀ r : Fin 11, s.hat.rows[r].grant ≤ s.hat.rows[r].demand)
  ∧ (s.hat.posted = false → s.hat.used = 0)
  ∧ (∀ r : Fin 11, s.hat.rows[r].cls ≤ 4)
  ∧ (∀ demand cls, HeatPosting.fogWatch demand cls ∈ s.transit.heats → cls ≤ 4)

/-- The supplementary stages on never exceed the electric stage cap, 0 before HEAT has settled; before the jobs run
every zone is OFF with no stage on (R126, R134). -/
def ElectricWithinCap (s : State) : Prop :=
  electricCount s ≤ (heatValues s).stageCap
  ∧ (running s = false → ∀ z : Fin 8, s.sph.zones[z].state = .off ∧ onCount s.sph.zones[z].heaters = 0)

/-- While a probe group is SUBSTITUTED, the ice is neither GAME nor COVERED, and neither is the state to return to
(R50, R79). -/
def SubstitutionExcludesPlay (s : State) : Prop :=
  anySubstituted s = true →
    s.plt.ice ≠ .game ∧ s.plt.ice ≠ .covered ∧ s.plt.prior ≠ some .game ∧ s.plt.prior ≠ some .covered

end Sys2Proof.Machine
end

