-- ==== Sys2Proof/Certificates/Slice0/Obligations.lean ====
section
/-! DEFINITION. The statements about the part, from the numbered rules of the manual; OBLIGATIONS.json says of each
which rules it states or rests on. -/

open Sys2Proof Sys2Proof.Machine

/-! ### The machine -/

/-- A step takes the command at the front of the queue (the model's queue, log 1). -/
def Obligations.StepTakesTheFront : Prop :=
  ∀ (c : Instr) (rest : List Instr) (s : State), s.pending = c :: rest → step s = exec c { s with pending := rest }

/-- With no command waiting a tick passes, unless an event of the present tick is still to be taken (log 1), one of
those that `EventDue` lists and no other: the tick count, every timer, age and count of the part, and nothing else (log
23; due ticks and fades as log 29 keeps them, the confirm inputs as log 34 reads them, no second of RECOVER at its
limit by log 14, what waits to be taken by another block log 3). -/
def Obligations.IdleStepPassesATick : Prop :=
  ∀ s : State, s.pending = [] →
    (EventDue s → step s = .next s)
    ∧ (¬EventDue s → ∃ t, step s = .next t ∧ TickPassed s t)

/-- Every command answers a next state in every state, and changes nothing outside the parts the rules that own it name
(`touches`). That a row without its cause changes nothing is the model's choice (log 2). -/
def Obligations.EveryCommandKeepsItsFrame : Prop :=
  ∀ (c : Instr) (s : State), Ends c s fun t => Frame (touches c) s t

/-! ### Resets -/

/-- Every reset row brings every block to its reset values (R33, R34). That the queue of commands stays is the model's
reading, not a rule's (log 6). -/
def Obligations.ResetsBringTheResetValues : Prop :=
  ∀ (strap : Bool) (s : State),
    exec (.powerOnReset strap) s = .next { State.reset with link := Link.reset strap, pending := s.pending }
    ∧ exec (.resetLine strap) s = .next { State.reset with
        link := Link.reset strap, ops := Ops.reset .resetLine s.ops.powerFlag, evl := Evl.reset s.evl.memory,
        pending := s.pending }
    ∧ exec (.brownout strap) s = .next { State.reset with
        link := Link.reset strap, ops := Ops.reset .brownout s.ops.powerFlag, evl := Evl.reset s.evl.memory,
        pending := s.pending }

/-- The values of the chapters' reset tables; that the sampled levels of ENTRY and EXIT are low is log 33. -/
def Obligations.ResetValuesAreTheManuals : Prop :=
  let s := State.reset
  s.tick = 0 ∧ s.link.rx = .hunt ∧ s.link.intake = [] ∧ s.link.replies = [] ∧ s.link.busyMark = none
  ∧ s.link.overrun = false ∧ s.link.notices = [] ∧ s.link.noticesLost = false
  ∧ s.link.faults = { stopBit := 0, gap := 0, length := 0, check := 0, last := none }
  ∧ s.ops.part = .unconfigured ∧ s.ops.resetCause = .powerOn ∧ s.ops.powerFlag = true ∧ s.ops.spacing = none
  ∧ s.ops.silence = none ∧ s.ops.sweepList = [] ∧ s.ops.warmUp = none ∧ s.ops.failedCount = 0 ∧ s.ops.sweptCount = 0
  ∧ s.ops.fallbackWaiting = false ∧ s.link.gap = none ∧ s.link.dispatcher = .free ∧ s.link.tx = none
  ∧ (∀ p, (slotOf s.ops p).status = .absent ∧ (slotOf s.ops p).items = [] ∧ (slotOf s.ops p).settle = none)
  ∧ (∀ (g : Group) (k : Fin 8), reading s g k = { value := 0, quality := .absent, age := 0, mark := .uncal })
  ∧ (∀ g : Group, s.prb[groupIdx g].state = .asleep ∧ s.prb[groupIdx g].period = none
      ∧ s.prb[groupIdx g].wake = none ∧ s.prb[groupIdx g].second = none ∧ s.prb[groupIdx g].held = none
      ∧ s.prb[groupIdx g].subLimit = none ∧ s.prb[groupIdx g].schedule = none ∧ powerSwitch s g = false)
  ∧ (∀ n : Nat, 2 ≤ n → n ≤ 44 → sourceLevel s n = false)
  ∧ (∀ i : Fin 8, s.cnd.fi[i] = false ∧ s.cnd.thresholds[i] = { items := none, active := false })
  ∧ (∀ k : Fin 16, s.cnd.cells[k] =
      { config := .none, out := false, tickView := false, phase := .idle, n := 0, seen0 := false, seen1 := false,
        seen2 := false })
  ∧ (∀ g : Fin 14, s.cnd.gates[g] = { binding := none, level := false }) ∧ s.cnd.divider = 0
  ∧ s.cnd.settings = none ∧ s.cnd.entryPhase = .low ∧ s.cnd.exitPhase = .low
  ∧ s.cnd.entryLevel = false ∧ s.cnd.exitLevel = false
  ∧ s.cnd.occupancy = 0 ∧ s.cnd.surge = [] ∧ s.cnd.crowdSurge = false
  ∧ s.plt.ice = .hold ∧ s.plt.prior = none ∧ s.plt.request = 0 ∧ s.plt.applied = 0 ∧ s.plt.mean = none
  ∧ s.plt.softWatch = none ∧ s.plt.softClear = none ∧ s.plt.recover = none ∧ s.plt.brineOut = -700
  ∧ (∀ n : Fin 6, s.plt.stages[n].state = .off ∧ s.plt.stages[n].cause = .none ∧ s.plt.stages[n].ticks = 0
      ∧ s.plt.stages[n].startTimer = none ∧ s.plt.stages[n].stopTimer = none ∧ s.plt.stages[n].confirm = false
      ∧ runLine s n = false)
  ∧ s.plt.derate = 100 ∧ s.plt.supply = 0 ∧ s.plt.subfloor = 0
  ∧ s.ilt.base = 0 ∧ s.ilt.crowd = 0 ∧ s.ilt.lighting = 0 ∧ s.ilt.stands = 0 ∧ s.ilt.resurface = 0
  ∧ s.ilt.fogRaise = 0 ∧ s.ilt.lightLoad = 0 ∧ s.ilt.factor = 0 ∧ s.ilt.occupancy = 0 ∧ s.ilt.crowdPer = none
  ∧ s.ilt.reserve = none ∧ s.ilt.exitMargin = none ∧ s.ilt.capacity = 0 ∧ s.ilt.rawSum = 0 ∧ s.ilt.total = 0
  ∧ s.ilt.admission = 0 ∧ s.ilt.overBudget = false ∧ s.ilt.dwell = none ∧ s.ilt.hold = none
  ∧ s.hat.supply = 0 ∧ s.hat.posted = false ∧ s.hat.used = 0 ∧ s.hat.rejected = 0 ∧ s.hat.heatShort = false
  ∧ s.hat.rejectValve = 100
  ∧ (∀ r : Fin 11, s.hat.rows[r] =
      { cls := if r = 0 then 0 else if r = 1 then 3 else if r = 10 then 4 else 2, posted := 0, max := 0, demand := 0,
        grant := 0, state := .idle, valve := 0 })
  ∧ (∀ z : Fin 8, s.sph.zones[z] =
      { state := .off, remembered := none, target := none, preheat := none, raw := 0, demand := 0, grant := 0,
        row := .idle, heaters := Vector.replicate 3 { on := false, minOn := none } })
  ∧ electricCount s = 0 ∧ s.sph.fogCap = 100 ∧ s.sph.secondary = false ∧ s.sph.overBudget = false
  ∧ s.sph.soft = false ∧ s.sph.stands = 0
  ∧ s.fgw.level = .clear ∧ s.fgw.haze = true ∧ s.fgw.spread = none ∧ (∀ k : Fin 4, s.fgw.layers[k] = none)
  ∧ s.fgw.dwell = none ∧ s.fgw.blind = none ∧ s.fgw.starve = none ∧ s.fgw.secondary = false ∧ s.fgw.weak = false
  ∧ s.fgw.fogSeen = false ∧ s.fgw.doorOpen = false ∧ s.fgw.grant = 0 ∧ s.fgw.row = .idle ∧ s.fgw.fan = 0
  ∧ s.fgw.postedDemand = 0 ∧ s.fgw.postedClass = 3 ∧ s.fgw.postedRaise = 0 ∧ s.fgw.postedCap = 100
  ∧ s.fgw.postedSecondary = false
  ∧ s.plt.profile = none ∧ s.fgw.profile = none ∧ s.sph.profile = none ∧ s.evl.profile = none
  ∧ (∀ ch : Fin 24, dimmerOutput s ch = none
      ∧ s.evl.dimmers[ch] = { driven := false, working := 0, applied := 0, fade := none, cls := none })
  ∧ s.evl.play = .idle ∧ s.evl.position = none ∧ s.evl.recent = none ∧ s.evl.fadeEnd = none ∧ s.evl.follow = none
  ∧ s.evl.releaseTimer = none ∧ s.evl.lightLoad = 0 ∧ s.evl.want0 = false ∧ s.evl.want2 = false ∧ s.evl.want3 = false
  ∧ s.evl.pulse = none ∧ s.evl.sinceFlash = none ∧ s.evl.dropReported = false ∧ s.evl.hazeInhibit = false
  ∧ s.evl.strobeInhibit = false ∧ s.evl.memory = [] ∧ s.evl.posted = []
  ∧ s.evl.deferred = none ∧ lineE0 s = false ∧ lineE1 s = false ∧ lineE2 s = false ∧ lineE3 s = false

/-! ### The message link -/

/-- A frame whose last byte has left TXD: RESTART's brings the reset, any other the next frame and nothing else (R6,
R7, R10). That the queue of commands stays over the reset is log 6, that nothing changes when no frame is being sent
log 2. -/
def Obligations.TransmitEndSendsTheNext : Prop :=
  ∀ (strap : Bool) (s : State),
    (s.link.tx = none → exec (.transmitEnd strap) s = .next s)
    ∧ ∀ f : Reply, s.link.tx = some f →
    (f.restart = true → exec (.transmitEnd strap) s = .next { State.reset with
      link := Link.reset strap, ops := Ops.reset .restart s.ops.powerFlag, evl := Evl.reset s.evl.memory,
      pending := s.pending })
    ∧ (f.restart = false →
        (∀ tag, s.link.busyMark = some tag → exec (.transmitEnd strap) s = .next { s with
          link.tx := some
            { tag := tag, kind := 0xFF, body := [11, 0x10, 1, if s.link.overrun then 1 else 0], restart := false },
          link.busyMark := none, link.overrun := false })
        ∧ (s.link.busyMark = none → exec (.transmitEnd strap) s = .next { s with
          link.tx := s.link.replies.head?, link.replies := s.link.replies.tail }))

/-- A frame that arrives whole with a right check, and finds a place, joins the intake (R3, R5); a frame placed
restarts the host-silence timer in RUN (R30). Its bytes may come in any number of commands, each taken by the receiver's
state and loading the gap timer with 3 (R3, R4, log 7). -/
def Obligations.WholeFrameJoinsTheIntake : Prop :=
  (∀ (tag kind : Byte) (body : List Byte) (s : State),
    s.link.rx = .hunt → body.length ≤ 510 → s.link.intake.length < 4 →
    Ends (.frameReceive (arriving tag kind body)) s fun t =>
      t.link.intake = s.link.intake ++ [{ tag := tag, kind := kind, body := body }]
      ∧ t.link.rx = .hunt ∧ t.link.gap = none ∧ t.link.faults = s.link.faults
      ∧ t.ops.silence = if s.ops.part = .run then freshSilence s else s.ops.silence)
  ∧ (∀ (first second : List LineByte) (s : State), Ends (.frameReceive first) s fun u =>
      exec (.frameReceive (first ++ second)) s = exec (.frameReceive second) u)
  ∧ (∀ (v : Byte) (s : State),
    let taken := exec (.frameReceive [{ value := v, stopOk := true }]) s
    let mid (rx : RxState) : State := { s with link.rx := rx, link.gap := some 3 }
    (s.link.rx = .hunt → taken = .next (if v = 0xD5 then mid (.length none) else s))
    ∧ (s.link.rx = .length none → taken = .next (mid (.length (some v))))
    ∧ (∀ low : Byte, s.link.rx = .length (some low) → 2 ≤ low.toNat + 256 * v.toNat → low.toNat + 256 * v.toNat ≤ 512 →
        taken = .next (mid (.body (low.toNat + 256 * v.toNat) [])))
    ∧ (∀ n got, s.link.rx = .body n got →
        (got.length + 1 < n → taken = .next (mid (.body n (got ++ [v]))))
        ∧ (n ≤ got.length + 1 → taken = .next (mid (.check n (got ++ [v]) none))))
    ∧ (∀ n got, s.link.rx = .check n got none → taken = .next (mid (.check n got (some v))))
    ∧ (∀ n tag kind body high, s.link.rx = .check n (tag :: kind :: body) (some high) →
        crc (le 2 n ++ tag :: kind :: body) = high ++ v → s.link.intake.length < 4 → taken = .next { s with
          link.rx := .hunt, link.gap := none,
          link.intake := s.link.intake ++ [{ tag := tag, kind := kind, body := body }],
          ops.silence := if s.ops.part = .run then freshSilence s else s.ops.silence }))

/-- A frame that finds the intake full is refused: the busy mark takes its tag, and an idle transmitter starts the BUSY
reply at once (R5, R6). -/
def Obligations.FullIntakeMarksBusy : Prop :=
  ∀ (tag kind : Byte) (body : List Byte) (s : State),
    s.link.rx = .hunt → body.length ≤ 510 → 4 ≤ s.link.intake.length →
    Ends (.frameReceive (arriving tag kind body)) s fun t =>
      t.link.intake = s.link.intake ∧ t.ops.silence = s.ops.silence ∧ t.link.replies = s.link.replies
      ∧ (∀ f, s.link.tx = some f → t.link.tx = some f ∧ t.link.busyMark = some tag
          ∧ t.link.overrun = (s.link.overrun || s.link.busyMark.isSome))
      ∧ (s.link.tx = none → t.link.busyMark = none ∧ t.link.overrun = false
          ∧ t.link.tx = some
            { tag := tag, kind := 0xFF,
              body := [11, 0x10, 1, if s.link.overrun || s.link.busyMark.isSome then 1 else 0], restart := false })

/-- The four link faults: the frame is abandoned, the fault counted up to 255 and named as the last cause (R4). -/
def Obligations.LinkFaultsAreCounted : Prop :=
  ∀ (s : State) (v : Byte),
    (exec (.frameReceive [{ value := v, stopOk := false }]) s = .next { s with
      link.rx := .hunt, link.gap := none,
      link.faults := { s.link.faults with
        stopBit := min 255 (s.link.faults.stopBit + 1), last := some .stopBit } })
    ∧ (s.link.gap = some 0 → exec .gapExpiry s = .next { s with
        link.rx := .hunt, link.gap := none,
        link.faults := { s.link.faults with gap := min 255 (s.link.faults.gap + 1), last := some .gap } })
    ∧ (∀ low : Byte, s.link.rx = .length (some low) →
        (low.toNat + 256 * v.toNat < 2 ∨ 512 < low.toNat + 256 * v.toNat) →
        exec (.frameReceive [{ value := v, stopOk := true }]) s = .next { s with
          link.rx := .hunt, link.gap := none,
          link.faults := { s.link.faults with length := min 255 (s.link.faults.length + 1), last := some .length } })
    ∧ (∀ (n : Nat) (got : List Byte) (high : Byte), s.link.rx = .check n got (some high) →
        crc (le 2 n ++ got) ≠ high ++ v →
        exec (.frameReceive [{ value := v, stopOk := true }]) s = .next { s with
          link.rx := .hunt, link.gap := none,
          link.faults := { s.link.faults with check := min 255 (s.link.faults.check + 1), last := some .check } })

/-- The screen: kind, items, part state, settling, the first failure answered and nothing else changed (R8). Which item
is named: the first one that fails on its own, else that of a failing relation (of several the order is log 12), else
the lowest required one that is missing, of a PROFILE LOAD none (R12, R18). A profile's relations, those of a group
schedule among them (R39), name the later of their two items (R12, R75, log 12). -/
def Obligations.ScreenRefusesInOrder : Prop :=
  (∀ (s : State) (r : Request), s.link.intake.head? = some r → canTake s = true →
    (requestRow r = .unknownKindRequest ↔ r.kind.toNat ∉ requestKinds)
    ∧ (r.kind.toNat ∉ requestKinds → OnlyAnswers .unknownKindRequest s r (plain .unknownKind))
    ∧ (r.kind.toNat ∈ requestKinds →
        (∀ id, checkBody r = .bad id → OnlyAnswers (requestRow r) s r (badField id))
        ∧ (∀ items, checkBody r = .ok items →
            (needsRun r.kind.toNat = true → running s = false →
              OnlyAnswers (requestRow r) s r (plain .notConfigured))
            ∧ ((needsRun r.kind.toNat = true → running s = true) →
                settlingJob s (requestJob r.kind.toNat items) = true →
                OnlyAnswers (requestRow r) s r (plain .settling)))))
  ∧ (∀ r : Request, r.kind ≠ 0x10 →
    (∀ front seen id rest, r.body = front ++ id :: rest → ItemsPass (itemRow r) front seen →
      ItemFails (itemRow r) seen id.toNat rest → checkBody r = .bad id.toNat)
    ∧ (∀ items, ItemsPass (itemRow r) r.body items →
        let needs := requestRequires r.kind.toNat items
        ((∃ id, RelationFails r.kind.toNat items id) →
          ∃ id, RelationFails r.kind.toNat items id ∧ checkBody r = .bad id)
        ∧ ((∀ id, ¬RelationFails r.kind.toNat items id) →
          (∀ id n, (id, n) ∈ needs → countOf items id < n →
            (∀ lower m, (lower, m) ∈ needs → lower < id → m ≤ countOf items lower) → checkBody r = .bad id)
          ∧ ((∀ id n, (id, n) ∈ needs → n ≤ countOf items id) → checkBody r = .ok items))))
  ∧ (∀ r : Request, r.kind = 0x10 →
    (r.body.head? ≠ some 0x01 → checkBody r = .bad 0x01)
    ∧ (∀ rest, r.body = 0x01 :: rest → ItemFails (inTable [one 0x01 0 3]) [] 0x01 rest → checkBody r = .bad 0x01)
    ∧ (∀ (p : ProfileKind) (v : Byte) (more : List Byte), r.body = 0x01 :: 1 :: v :: more → v.toNat = profileCode p →
        (∀ front seen id rest, r.body = front ++ id :: rest → ItemsPass (profileRow p) front seen →
          ItemFails (profileRow p) seen id.toNat rest → checkBody r = .bad id.toNat)
        ∧ (∀ items, ItemsPass (profileRow p) r.body items →
            ((∃ id, PairFails p items id) → ∃ id, PairFails p items id ∧ checkBody r = .bad id)
            ∧ ((∀ id, ¬PairFails p items id) → checkBody r = .ok items))))

/-- IDENTIFY (R15): with an empty body it is answered DONE with its four items; it takes no items. -/
def Obligations.IdentifyAnswers : Prop :=
  ∀ (s : State) (r : Request), s.link.intake.head? = some r → canTake s = true → r.kind = 0x01 →
    (r.body = [] → OnlyAnswers .identify s r (doneWith
      [(0x10, [0x3C, 0x5C]), (0x11, [3]), (0x12, [if s.link.fastRate then 1 else 0]), (0x13, le 4 s.tick.toNat)]))
    ∧ (∀ (b : Byte) (rest : List Byte), r.body = b :: rest → OnlyAnswers .identify s r (badField b.toNat))

/-- STATUS READ (R16): the reply with the figures of its table first (their order and packing are log 11), then the
clearing that was asked for. -/
def Obligations.StatusReadClearsAfterTheReply : Prop :=
  ∀ (s : State) (r : Request) (items : List Item), Taken .statusRead s r items →
    Ends .statusRead s fun t =>
      Answered s t r (doneWith (statusReply s))
      ∧ (valueOf items 0x10 = some 1 → t.link.noticesLost = false
          ∧ t.link.faults = { stopBit := 0, gap := 0, length := 0, check := 0, last := none })
      ∧ (valueOf items 0x10 ≠ some 1 → t.link.noticesLost = s.link.noticesLost ∧ t.link.faults = s.link.faults)
      ∧ t.link.notices = s.link.notices

/-- The notice queue: a notice joins the tail, a full queue loses its oldest and says so (R13); NOTICE FETCH removes the
oldest and answers them (R14). -/
def Obligations.NoticesQueueAndAreFetched : Prop :=
  (∀ (s : State) (kind : NoticeKind) (source : Nat) (first second : Int),
    (s.link.notices.length < 32 →
      (s.post kind source first second).link.notices = s.link.notices ++ [note s kind source first second]
      ∧ (s.post kind source first second).link.noticesLost = s.link.noticesLost)
    ∧ (s.link.notices.length = 32 →
      (s.post kind source first second).link.notices = s.link.notices.tail ++ [note s kind source first second]
      ∧ (s.post kind source first second).link.noticesLost = true)
    ∧ attn (s.post kind source first second) = true)
  ∧ (∀ (s : State) (r : Request) (items : List Item), Taken .noticeFetch s r items →
    Ends .noticeFetch s fun t =>
      t.link.notices = s.link.notices.drop (natOf items 0x10) ∧ t.link.noticesLost = s.link.noticesLost
      ∧ Answered s t r (doneWith
          ((s.link.notices.take (natOf items 0x10)).map (fun n => (0x10, noticeBytes n))
            ++ [(0x11, ub 1 (s.link.notices.drop (natOf items 0x10)).length)]))
      ∧ (attn t = true ↔ natOf items 0x10 < s.link.notices.length))

/-- POWER FLAG CLEAR and RESTART (R34, R7). -/
def Obligations.PowerFlagAndRestart : Prop :=
  ∀ (s : State) (r : Request) (items : List Item),
    (Taken .powerFlagClear s r items → Ends .powerFlagClear s fun t =>
      Answered s t r (plain .done) ∧ t.ops = { s.ops with powerFlag := false })
    ∧ (Taken .restart s r items → Ends .restart s fun t =>
        t.link.intake = s.link.intake.tail ∧ t.link.dispatcher = .halted ∧ canTake t = false
        ∧ Replied s t { replyTo r (plain .done) with restart := true })

/-- The reads that answer DONE carry the figures of their rules and change nothing else (R9, R49, R69, R98, R110, R123,
R138, R152, R173, R174). The packing is log 11, 17 and 35; a spread that is none is sent as log 40 says, a PLANT_BOOST
held back shows a boost of 0 (log 36), due ticks are formed from the ticks left (log 29). -/
def Obligations.ReadsAnswerAndChangeNothing : Prop :=
  ∀ (s : State) (r : Request) (items : List Item),
    (Taken .batchRead s r items → OnlyAnswers .batchRead s r (doneWith (batchReadItems items (took s))))
    ∧ (Taken .cellRead s r items → ∀ k : Fin 16, natOf items 0x10 = k.val →
        OnlyAnswers .cellRead s r (doneWith (cellReply s k)))
    ∧ (Taken .plantRead s r items → OnlyAnswers .plantRead s r (doneWith (plantReply s)))
    ∧ (Taken .loadTableRead s r items → OnlyAnswers .loadTableRead s r (doneWith (loadTableReply s)))
    ∧ (Taken .heatTableRead s r items → OnlyAnswers .heatTableRead s r (doneWith (heatTableReply s)))
    ∧ (Taken .zoneRead s r items → ∀ z : Fin 8, natOf items 0x10 = z.val + 1 →
        OnlyAnswers .zoneRead s r (doneWith (zoneReply s z)))
    ∧ (Taken .fogRead s r items → OnlyAnswers .fogRead s r (doneWith (fogReply s)))
    ∧ (Taken .playbackRead s r items → OnlyAnswers .playbackRead s r (doneWith (playbackReply s)))

/-- BATCH READ's items (R49): eight records, place i carrying that of channel (s + i) mod 8, or of s XOR i; then the
group's state and the ticks left of a substitution (log 11). -/
def Obligations.BatchReadOrder : Prop :=
  ∀ (s : State) (r : Request) (items : List Item), Taken .batchRead s r items →
    ∀ g : Group, natOf items 0x10 = (groupIdx g).val →
      let reply := batchReadItems items (took s)
      (natOf items 0x12 = 0 → ∀ i : Fin 8,
        reply[i.val]? = some (0x10, recordReply s g (Fin.ofNat 8 (natOf items 0x11 + i.val))))
      ∧ (natOf items 0x12 = 1 → ∀ i : Fin 8,
        reply[i.val]? = some (0x10, recordReply s g (Fin.ofNat 8 (natOf items 0x11 ^^^ i.val))))
      ∧ reply.drop 8 =
        [(0x11, ub 1 (groupStateCode s.prb[groupIdx g].state)),
         (0x12, if s.prb[groupIdx g].state = .substituted then ub 2 (s.prb[groupIdx g].subLimit.getD 0)
           else [0xFF, 0xFF])]

/-- PROFILE READ (R23) and CUE READ (R162). The order of PROFILE READ's items, without item 0x01, its status in item
0x02, is log 11; that CUE READ's list gives one item to each number is log 35. -/
def Obligations.StoredProfilesAndCuesRead : Prop :=
  ∀ (s : State) (r : Request) (items : List Item),
    (Taken .profileRead s r items → ∀ p, natOf items 0x01 = profileCode p →
      ((slotOf s.ops p).status = .absent → OnlyAnswers .profileRead s r (plain .notConfigured))
      ∧ ((slotOf s.ops p).status ≠ .absent → OnlyAnswers .profileRead s r (doneWith
          ((profileItems p).map (fun sp => (sp.id, storedBytes sp (intOf (slotOf s.ops p).items sp.id)))
            ++ [(0x02, ub 1 (statusCode (slotOf s.ops p).status))]))))
    ∧ (Taken .cueRead s r items →
      (∀ number : Int, valueOf items 0x11 = some number →
        (∀ c, findCue s.evl.memory (natOf items 0x10) number.toNat = some c →
          OnlyAnswers .cueRead s r (doneWith (cueItems c)))
        ∧ (findCue s.evl.memory (natOf items 0x10) number.toNat = none →
          OnlyAnswers .cueRead s r (plain .notFound)))
      ∧ (valueOf items 0x11 = none → OnlyAnswers .cueRead s r (doneWith
          ((listCues s.evl.memory (natOf items 0x10)).map (fun c => (0x10, ub 2 c.number))
            ++ [(0x11, ub 1 (listCues s.evl.memory (natOf items 0x10)).length),
                (0x12, ub 1 (256 - s.evl.memory.length))]))))

/-! ### Operating states and profiles -/

/-- PROFILE LOAD: the lowest item lacked, the part and job state, the spacing timer, then the load (R18, R19, R20,
R22). -/
def Obligations.ProfileLoadIsJudgedThenTaken : Prop :=
  ∀ (s : State) (r : Request) (items : List Item) (p : ProfileKind),
    Taken .profileLoad s r items → natOf items 0x01 = profileCode p →
    (∀ id ∈ (profileItems p).map ItemSpec.id, countOf items id = 0 →
        (∀ other ∈ (profileItems p).map ItemSpec.id, countOf items other = 0 → id ≤ other) →
        OnlyAnswers .profileLoad s r { outcome := .incomplete, items := [(0x10, ub 1 id)] })
    ∧ ((∀ id ∈ (profileItems p).map ItemSpec.id, countOf items id ≠ 0) →
      (¬LoadPermitted s p → OnlyAnswers .profileLoad s r (plain .wrongState))
      ∧ (LoadPermitted s p → s.ops.spacing ≠ none → OnlyAnswers .profileLoad s r (plain .tooSoon))
      ∧ (LoadPermitted s p → s.ops.spacing = none → Ends .profileLoad s fun t =>
          Answered s t r (plain .done)
          ∧ slotOf t.ops p =
            { status := .settling, items := items.filter (fun i => i.id != 0x01), settle := some 50 }
          ∧ (∀ q, q ≠ p → slotOf t.ops q = slotOf s.ops q)
          ∧ t.ops.spacing = some 20
          ∧ t.ops.part = if running s then s.ops.part else .configuring))

/-- The profile spacing timer (R20): one for the four profiles, started at 20 ticks by an accepted load, counting in
every part state, stopping at expiry, neither restarted nor extended by a refusal, idle after every reset. -/
def Obligations.ProfileSpacingTimer : Prop :=
  (∀ (s : State) (r : Request) (items : List Item) (p : ProfileKind),
    Taken .profileLoad s r items → natOf items 0x01 = profileCode p →
    (∀ id ∈ (profileItems p).map ItemSpec.id, countOf items id ≠ 0) → LoadPermitted s p →
      (s.ops.spacing = none → Ends .profileLoad s fun t => Answered s t r (plain .done) ∧ t.ops.spacing = some 20)
      ∧ (∀ n, s.ops.spacing = some n →
          Ends .profileLoad s fun t => Answered s t r (plain .tooSoon) ∧ t.ops.spacing = some n))
  ∧ (∀ (s : State) (n : Nat), s.ops.spacing = some (n + 1) → (passTick s).ops.spacing = some n)
  ∧ (∀ s : State, s.ops.spacing = some 0 → exec .spacingExpiry s = .next { s with ops.spacing := none })
  ∧ ∀ (strap : Bool) (s : State),
      Ends (.powerOnReset strap) s (fun t => t.ops.spacing = none)
      ∧ Ends (.resetLine strap) s (fun t => t.ops.spacing = none)
      ∧ Ends (.brownout strap) s (fun t => t.ops.spacing = none)
      ∧ (∀ f, s.link.tx = some f → f.restart = true → Ends (.transmitEnd strap) s fun t => t.ops.spacing = none)

/-- SETTLE_END: the profile is LOADED with its notice and its stored copy takes effect: values, schedules, row maxima
with their pass; the fourth one LOADED makes the part CONFIGURED (R21, R39, R76, R112 to R121). The jobs' own actions
come with it (R76, R96, R125, R140), the channels a new mask disables, the records past a stale limit that falls, the
updates of every group whose records changed (R43, R82 to R85, R128, R142 to R151), the sweep that recalibrate asks for
and the FALLBACK that LIGHT still owes (R25, R31, R44 to R46, R169, R172). What of these comes first in the event is log
9 and log 21, the class of a released channel log 16, the derate factor's rounding log 22, the drop of a deferred cue
whichever it is at the owed FALLBACK log 26, the settle figures before RUN log 27, the waiting transfers log 3, the fog
cap ahead of the secondary flag log 41, the table that the test of a follow of 0 in the owed FALLBACK's event is asked
of log 42. -/
def Obligations.SettleEndBringsTheValues : Prop :=
  ∀ (s : State) (p : ProfileKind), (slotOf s.ops p).settle = some 0 →
    Ends (.settleEnd p) s fun t =>
      let items := (slotOf s.ops p).items
      let sweeps := p = .plant ∧ natOf items 0x63 = 1 ∧ running s = true
      let owed := p = .light ∧ s.ops.fallbackWaiting = true
      slotOf t.ops p =
        { status := .loaded, settle := none,
          items := if p = .plant then items.map (fun i => if i.id = 0x63 then { i with val := 0 } else i) else items }
      ∧ (∀ q, q ≠ p → slotOf t.ops q = slotOf s.ops q)
      ∧ t.ops.spacing = s.ops.spacing ∧ CellsFollow s t
      ∧ (s.ops.part = .configuring → (∀ q, q ≠ p → (slotOf s.ops q).status = .loaded) → t.ops.part = .configured)
      ∧ (¬(s.ops.part = .configuring ∧ ∀ q, q ≠ p → (slotOf s.ops q).status = .loaded) → t.ops.part = s.ops.part)
      ∧ t.ops.silence = (if p = .plant ∧ s.ops.part = .run then freshSilence t else s.ops.silence)
      ∧ (∃ more, t.link.notices
          = joinAll s.link.notices (note s .profileSettled (profileCode p) 0 0 :: (faultNotices s t ++ more)))
      ∧ (p = .plant → t.plt.profile = some (plantOf items) ∧ t.hat.rows[0].max = (plantOf items).subfloorMax
          ∧ (running s = false → t.plt = { s.plt with profile := some (plantOf items) } ∧ t.ilt = { s.ilt with
              crowdPer := some (plantOf items).crowd, reserve := some (plantOf items).reserve,
              exitMargin := some (plantOf items).exitMargin })
          ∧ (running s = true → ∃ u : State, PlantSettled u t
              ∧ Updated (qualityDiffers s t) { s with
                  plt.profile := some (plantOf items),
                  link.notices := joinAll s.link.notices [note s .profileSettled (profileCode p) 0 0] } u)
          ∧ (running s = true → HeatSideJudged s t ∧ decideOnce t = none
              ∧ t.plt.applied = min s.plt.request (raiseCeiling t)
              ∧ t.plt.brineOut = bandLow t - (plantOf items).approach
              ∧ LoadPosting.plant
                { base := some (modeValues t).baseLoad, resurface := some (resurfaceEntry t),
                  fogRaise := some (fogRaise t), factor := some (modeValues t).factor,
                  capacity := some (notLockedCapacity t), crowd := some (plantOf items).crowd,
                  reserve := some (plantOf items).reserve, exitMargin := some (plantOf items).exitMargin }
                ∈ t.transit.loads))
      ∧ (p = .fog → t.fgw.profile = some (fogOf items) ∧ t.hat.rows[1].max = (fogOf items).rows[3].desiccant
          ∧ (running s = true → FogSettled s t)
          ∧ (running s = false → t.fgw = { s.fgw with profile := some (fogOf items) }))
      ∧ (p = .heat → t.sph.profile = some (heatOf items) ∧ t.hat.rows[10].max = (heatOf items).meltMax
          ∧ (∀ z : Fin 8, t.hat.rows[zoneRow z].max = (heatOf items).zones[z].max)
          ∧ (running s = true → HeatSettled s t)
          ∧ (running s = false → t.sph = { s.sph with profile := some (heatOf items) }))
      ∧ (∀ r : Fin 11,
          let given := (p = .plant ∧ r = 0) ∨ (p = .fog ∧ r = 1) ∨ (p = .heat ∧ 2 ≤ r)
          t.hat.rows[r].posted = s.hat.rows[r].posted ∧ t.hat.rows[r].cls = s.hat.rows[r].cls
          ∧ (given → t.hat.rows[r].demand = min s.hat.rows[r].posted t.hat.rows[r].max)
          ∧ (¬given → t.hat.rows[r].max = s.hat.rows[r].max ∧ t.hat.rows[r].demand = s.hat.rows[r].demand))
      ∧ t.hat.supply = s.hat.supply ∧ t.hat.posted = s.hat.posted
      ∧ (p ≠ .light → s.hat.posted = true → HeatAccounted s → PassMade s t
          ∧ ∃ more, t.link.notices = joinAll s.link.notices
              (note s .profileSettled (profileCode p) 0 0 :: (faultNotices s t ++ more ++ shortfallNotices s t)))
      ∧ (p = .light ∨ s.hat.posted = false → t.hat.used = s.hat.used ∧ t.transit.zoneGrants = s.transit.zoneGrants
          ∧ t.transit.desiccants = s.transit.desiccants ∧ ∀ r : Fin 11, t.hat.rows[r].grant = s.hat.rows[r].grant)
      ∧ (p = .light → t.hat = s.hat)
      ∧ (s.hat.posted = false → t.hat = { s.hat with rows := t.hat.rows }
          ∧ ∀ r : Fin 11, t.hat.rows[r].state = s.hat.rows[r].state ∧ t.hat.rows[r].valve = s.hat.rows[r].valve)
      ∧ (p ≠ .plant → t.plt = s.plt) ∧ (p ≠ .light → t.evl = s.evl)
      ∧ (p ≠ .plant ∨ running s = true → t.ilt = s.ilt)
      ∧ (p = .heat ∨ p = .light ∨ running s = false → t.fgw = { s.fgw with profile := t.fgw.profile })
      ∧ (p = .fog ∨ p = .light ∨ running s = false → t.sph = { s.sph with profile := t.sph.profile })
      ∧ (p = .light → t.evl.profile = some (lightOf items) ∧ (¬owed → t.evl = (lightTakeValues s (lightOf items)).evl))
      ∧ (∀ (g : Group) (x : Schedule), (g, x) ∈ schedulesOf p items → t.prb[groupIdx g].schedule = some x)
      ∧ (∀ g : Group, g ∉ (schedulesOf p items).map Prod.fst →
          t.prb[groupIdx g].schedule = s.prb[groupIdx g].schedule)
      ∧ (∀ (g : Group) (k : Fin 8),
          let falls := match effectiveStale s g, effectiveStale t g with
            | _, none => False
            | none, some _ => True
            | some old, some new => new < old
          (enabled s g k = true → enabled t g k = false →
            reading t g k = { reading s g k with mark := .uncal, quality := .absent })
          ∧ (¬(enabled s g k = true ∧ enabled t g k = false) →
            ((falls ∧ (reading s g k).quality = .good ∧ ∃ limit, effectiveStale t g = some limit
                ∧ limit < (reading s g k).age) → reading t g k = { reading s g k with quality := .stale })
            ∧ (¬(falls ∧ (reading s g k).quality = .good ∧ ∃ limit, effectiveStale t g = some limit
                ∧ limit < (reading s g k).age) → reading t g k = reading s g k)))
      ∧ ThresholdsJudged (qualityDiffers s t) s t
      ∧ (sweeps → t.ops.sweepList = s.ops.sweepList ++ [.a, .c].filter (fun g => !s.ops.sweepList.contains g))
      ∧ (¬sweeps → t.ops.sweepList = s.ops.sweepList)
      ∧ (∀ g : Group,
          (sweeps → s.ops.sweepList = [] → g = .a → t.prb[groupIdx g].state = .calibrating
            ∧ t.prb[groupIdx g].period = none ∧ t.prb[groupIdx g].wake = some (effectiveWarmUp t g))
          ∧ (¬(sweeps ∧ s.ops.sweepList = [] ∧ g = .a) →
            { t.prb[groupIdx g] with schedule := s.prb[groupIdx g].schedule, chans := s.prb[groupIdx g].chans }
              = s.prb[groupIdx g]))
      ∧ (¬owed → t.ops.fallbackWaiting = s.ops.fallbackWaiting)
      ∧ (owed →
          let list := (lightOf items).fallbackList
          let number := (lightOf items).fallbackCue
          let base := { lightTakeValues s (lightOf items) with evl.deferred := none }
          t.ops.fallbackWaiting = false
          ∧ (findCue s.evl.memory list number = none → t.evl = (lightTakeValues s (lightOf items)).evl
              ∧ lastNotice t = some (note s .fallback list 10 number))
          ∧ (∀ c, findCue s.evl.memory list number = some c → lastNotice t = some (note s .fallback list 0 number)
              ∧ (OneEach c → CueRuns base t c 1000 c.load fun u => u.evl.deferred = none
                ∧ ∀ d, s.evl.deferred = some d → note s .cueDropped d.list d.number 0 ∈ u.link.notices)))

/-- CALIBRATE: the start-up sweep of all groups from CONFIGURED, the named groups in RUN and FALLBACK (R24, R25,
R47). -/
def Obligations.CalibrateBeginsTheSweep : Prop :=
  ∀ (s : State) (r : Request) (items : List Item), Taken .calibrate s r items →
    (s.ops.part = .configured → Ends .calibrate s fun t =>
      Answered s t r (plain .accepted) ∧ t.ops.part = .calibrating ∧ t.ops.warmUp = some 300
      ∧ t.ops.sweepList = [.a, .b, .c, .d, .e]
      ∧ t.prb[groupIdx .a].state = .calibrating ∧ t.prb[groupIdx .a].period = none
      ∧ t.prb[groupIdx .a].wake = some (effectiveWarmUp s .a)
      ∧ ∀ g, g ≠ .a → t.prb[groupIdx g] = s.prb[groupIdx g])
    ∧ (∀ groups : List Group, valuesOf items 0x10 = groups.map (fun g => ((groupIdx g).val : Int)) →
      s.ops.part = .run ∨ s.ops.part = .fallback →
        (groups = [] → OnlyAnswers .calibrate s r (badField 0x10))
        ∧ (groups ≠ [] → (∃ g ∈ groups, s.prb[groupIdx g].state = .substituted) →
            OnlyAnswers .calibrate s r (plain .wrongState))
        ∧ (groups ≠ [] → (∀ g ∈ groups, s.prb[groupIdx g].state ≠ .substituted) → Ends .calibrate s fun t =>
            Answered s t r (plain .accepted) ∧ t.ops.part = s.ops.part
            ∧ t.ops.sweepList = s.ops.sweepList ++ groups.filter (fun g => !s.ops.sweepList.contains g)
            ∧ (s.ops.sweepList ≠ [] → t.prb = s.prb)
            ∧ (s.ops.sweepList = [] → ∀ g rest, groups = g :: rest →
                t.prb[groupIdx g].state = .calibrating ∧ t.prb[groupIdx g].period = none
                ∧ t.prb[groupIdx g].wake = some (effectiveWarmUp s g)
                ∧ ∀ h, h ≠ g → t.prb[groupIdx h] = s.prb[groupIdx h])))
    ∧ (s.ops.part = .unconfigured ∨ s.ops.part = .configuring ∨ s.ops.part = .calibrating ∨ s.ops.part = .nightHold →
        OnlyAnswers .calibrate s r (plain .wrongState))

/-- The sweep step's two samples: the first is held for a tick, the second judges every channel, lets the group sleep
and begins the next group's step (R24, R25, R47, R48), with one update to the jobs (R43), or the last one of start-up
enters RUN (R26). That PROBE_FAULTs stand before other notices is log 9, that CALIBRATION_DONE is the last log 21; that
a sample that changes no record gives its update log 10; that the period timer takes the profile's period in NIGHT_HOLD
too log 37; the derate factor's rounding log 22, a PLANT_BOOST held back at the entry log 36; the waiting transfers log
3, the fog cap ahead of the flag log 41. -/
def Obligations.SweepSamplesJudgeTheChannels : Prop :=
  ∀ (s : State) (g : Group) (x : Vector Int 8), s.prb[groupIdx g].state = .calibrating →
    (s.prb[groupIdx g].wake = some 0 → Ends (.firstSweepSample g x) s fun t =>
      t.prb[groupIdx g] = { s.prb[groupIdx g] with wake := none, second := some 1, held := some x }
      ∧ ∀ h, h ≠ g → t.prb[groupIdx h] = s.prb[groupIdx h])
    ∧ (∀ y : Vector Int 8, s.prb[groupIdx g].held = some x → s.prb[groupIdx g].second = some 0 →
      Ends (.secondSweepSample g y) s fun t =>
        (∀ k : Fin 8,
          let passes := (-5000 ≤ x[k] ∧ x[k] ≤ rangeHigh g k) ∧ (-5000 ≤ y[k] ∧ y[k] ≤ rangeHigh g k)
            ∧ (x[k] - y[k]).natAbs ≤ 20
          (enabled s g k = false → reading t g k = { reading s g k with mark := .uncal, quality := .absent })
          ∧ (enabled s g k = true → passes →
              reading t g k = { value := y[k], quality := .good, age := 0, mark := .passed })
          ∧ (enabled s g k = true → ¬passes →
              reading t g k = { reading s g k with mark := .failed, quality := .absent }))
        ∧ t.prb[groupIdx g].state = .asleep
        ∧ (∀ v, s.prb[groupIdx g].schedule = some v → t.prb[groupIdx g].period = some v.period)
        ∧ t.prb[groupIdx g].held = none ∧ powerSwitch t g = false
        ∧ t.ops.sweepList = s.ops.sweepList.filter (fun h => h != g)
        ∧ (∀ h rest, t.ops.sweepList = h :: rest →
            t.prb[groupIdx h].state = .calibrating ∧ t.prb[groupIdx h].wake = some (effectiveWarmUp s h)
            ∧ t.prb[groupIdx h].period = none ∧ t.ops.part = s.ops.part
            ∧ t.ops.sweptCount = s.ops.sweptCount + 1
            ∧ t.ops.failedCount = s.ops.failedCount + failedChannels s g x y)
        ∧ (t.ops.sweepList = [] → s.ops.part ≠ .calibrating → t.ops.part = s.ops.part
            ∧ lastNotice t = some (note s .calibrationDone 0
                ((s.ops.failedCount + failedChannels s g x y : Nat) : Int) ((s.ops.sweptCount + 1 : Nat) : Int)))
        ∧ (t.ops.sweepList = [] → s.ops.part = .calibrating → s.ops.warmUp = none →
            RunEntered s t (s.ops.failedCount + failedChannels s g x y))
        ∧ (t.ops.sweepList = [] → s.ops.part = .calibrating → s.ops.warmUp ≠ none → t.ops.part = .calibrating)
        ∧ (∀ h, h ≠ g → ¬(∃ rest, t.ops.sweepList = h :: rest) → t.prb[groupIdx h] = s.prb[groupIdx h])
        ∧ (∃ more, (∀ n ∈ more, n.kind ≠ .probeFault)
            ∧ t.link.notices = joinAll s.link.notices (faultNotices s t ++ more))
        ∧ ThresholdsJudged (fun h => h == g) s t ∧ CellsFollow s t
        ∧ (t.ops.part = s.ops.part → Updated (fun h => h == g) s t))

/-- The entry to RUN when the warm-up ends after the sweep (R24 to R26, R30, R77, R141); before the sweep's end the
warm-up only stops. That CALIBRATION_DONE is the last notice of the event is log 21, the derate factor's rounding log
22, that a PLANT_BOOST already active is held back log 36, the waiting transfers log 3. -/
def Obligations.WarmUpEndEntersRun : Prop :=
  ∀ s : State, s.ops.warmUp = some 0 →
    (s.ops.part = .calibrating → s.ops.sweepList = [] → Ends .warmUpExpiry s fun t =>
      t.ops.warmUp = none ∧ RunEntered s t s.ops.failedCount ∧ t.prb = s.prb ∧ CellsFollow s t)
    ∧ (¬(s.ops.part = .calibrating ∧ s.ops.sweepList = []) →
        exec .warmUpExpiry s = .next { s with ops.warmUp := none })

/-- Host silence: FALLBACK, the cue asked for and started without a test, whatever stood deferred dropped (log 26), and
the notice of what came of it last (log 21); RESUME returns (R31, R32, R172; the waiting posting of the lighting load
is log 3, the table that the test of a follow of 0 in the event is asked of log 42). -/
def Obligations.HostSilenceAndResume : Prop :=
  (∀ s : State, s.ops.part = .run → s.ops.silence = some 0 → Ends .hostSilenceExpiry s fun t =>
    let list := (lightValues s).fallbackList
    let number := (lightValues s).fallbackCue
    t.ops.part = .fallback ∧ t.ops.silence = none ∧ sourceLevel t 43 = true ∧ CellsFollow s t
    ∧ (settling s .light = true → t.ops.fallbackWaiting = true ∧ t.evl = s.evl
        ∧ lastNotice t = some (note s .fallback list 7 number))
    ∧ (settling s .light = false → findCue s.evl.memory list number = none → t.evl = s.evl
        ∧ lastNotice t = some (note s .fallback list 10 number))
    ∧ (settling s .light = false → ∀ c, findCue s.evl.memory list number = some c →
        lastNotice t = some (note s .fallback list 0 number)
        ∧ (OneEach c → CueRuns { s with evl.deferred := none } t c 1000 c.load fun u => u.evl.deferred = none
          ∧ ∀ d, s.evl.deferred = some d → note s .cueDropped d.list d.number 0 ∈ u.link.notices)))
  ∧ (∀ (s : State) (r : Request) (items : List Item), Taken .resume s r items →
    (s.ops.part = .fallback → Ends .resume s fun t =>
      Answered s t r (plain .done) ∧ t.ops.part = .run ∧ t.ops.silence = freshSilence s
      ∧ t.ops.fallbackWaiting = false ∧ t.evl = s.evl ∧ sourceLevel t 43 = false ∧ CellsFollow s t)
    ∧ (s.ops.part ≠ .fallback → OnlyAnswers .resume s r (plain .wrongState)))

/-- NIGHT HOLD: when it may be entered, what is purged, released and turned off, and the way back, with the updates
that the records turned STALE bring (R27, R29, R43 to R45, R137, R172; the waiting transfers are log 3, STANDS where no
demand changed log 15, PROBE_FAULTs ahead of other notices log 9, the derate factor's rounding log 22, the fog cap
ahead of the flag log 41). -/
def Obligations.NightHoldEnterAndLeave : Prop :=
  ∀ (s : State) (r : Request) (items : List Item),
    (Taken .nightHoldEnter s r items →
      let permitted := (s.ops.part = .run ∨ s.ops.part = .fallback) ∧ s.plt.ice = .hold ∧ QuietJob s .light
        ∧ ∀ p, settling s p = false
      (¬permitted → OnlyAnswers .nightHoldEnter s r (plain .wrongState))
      ∧ (permitted → Ends .nightHoldEnter s fun t =>
          Answered s t r (plain .done) ∧ t.ops.part = .nightHold ∧ t.ops.silence = none ∧ CellsFollow s t
          ∧ t.evl.memory = s.evl.memory.filter (fun c => decide (c.list ≤ (lightValues s).retention))
          ∧ (let gone := s.evl.memory.filter fun c => decide ((lightValues s).retention < c.list)
             lastNotice t = some (note s .retentionPurge 0 (listsHeld gone).length gone.length))
          ∧ (∀ z : Fin 8, t.sph.zones[z] = { s.sph.zones[z] with
              state := .off, remembered := none, preheat := none, raw := 0, demand := 0,
              heaters := Vector.replicate 3 { on := false, minOn := none } })
          ∧ t.sph = { s.sph with zones := t.sph.zones, stands := t.sph.stands }
          ∧ DemandsPosted s t
          ∧ t.sph.stands = (if changedZones s t = [] then standsFigure t else s.sph.stands)
          ∧ t.transit.loads = (if t.sph.stands = s.sph.stands then s.transit.loads
              else s.transit.loads ++ [.stands t.sph.stands])
          ∧ (∀ ch : Fin 24, t.evl.dimmers[ch] =
              { s.evl.dimmers[ch] with working := 0, applied := 0, fade := none })
          ∧ t.evl.want0 = false ∧ t.evl.want2 = false ∧ t.evl.want3 = false ∧ t.evl.pulse = none
          ∧ (∀ list n, s.evl.position = some (list, n) →
              t.evl.position = if (lightValues s).retention < list then none else some (list, n))
          ∧ (s.evl.position = none → t.evl.position = none)))
    ∧ (Taken .nightHoldLeave s r items →
      (s.ops.part ≠ .nightHold → OnlyAnswers .nightHoldLeave s r (plain .wrongState))
      ∧ (s.ops.part = .nightHold → Ends .nightHoldLeave s fun t =>
          Answered s t r (plain .done) ∧ t.ops.part = .run ∧ t.ops.silence = freshSilence s
          ∧ Updated (qualityDiffers s t) s t
          ∧ ∀ (g : Group) (k : Fin 8),
            (∀ x, s.prb[groupIdx g].schedule = some x →
              reading t g k =
                if (reading s g k).quality = .good ∧ min 65535 x.stale < (reading s g k).age then
                  { reading s g k with quality := .stale }
                else reading s g k)
            ∧ (s.prb[groupIdx g].schedule = none → reading t g k = reading s g k)))

/-! ### Probe scanner -/

/-- A group wakes at its period's expiry (R41; what of a group already awake is log 18), and at the end of its
substitution by request or by its limit (R53). The timers take the group's schedule, in NIGHT_HOLD with the period
scaled in full by the night factor (R28, R39). -/
def Obligations.GroupsWake : Prop :=
  ∀ (s : State) (g : Group),
    let woken := { s.prb[groupIdx g] with
      state := .waking, period := some (effectivePeriod s g), wake := some (effectiveWarmUp s g), subLimit := none }
    (s.prb[groupIdx g].period = some 0 → s.prb[groupIdx g].state = .asleep →
      Ends (.periodExpiry g) s fun t => t.prb[groupIdx g] = woken ∧ powerSwitch t g = true
        ∧ ∀ h, h ≠ g → t.prb[groupIdx h] = s.prb[groupIdx h])
    ∧ (s.prb[groupIdx g].period = some 0 → s.prb[groupIdx g].state = .waking →
      Ends (.periodExpiry g) s fun t =>
        t.prb[groupIdx g] = { s.prb[groupIdx g] with period := some (effectivePeriod s g) }
        ∧ ∀ h, h ≠ g → t.prb[groupIdx h] = s.prb[groupIdx h])
    ∧ (∀ x, s.prb[groupIdx g].schedule = some x →
        effectivePeriod s g = x.period * (if s.ops.part = .nightHold then (plantValues s).night else 1)
        ∧ effectiveWarmUp s g = x.warmUp ∧ profilePeriod s g = x.period)
    ∧ (s.prb[groupIdx g].state = .substituted → s.prb[groupIdx g].subLimit = some 0 →
      Ends (.substitutionLimitExpiry g) s fun t => t.prb[groupIdx g] = woken ∧ powerSwitch t g = true
        ∧ Frame [.probes] s t ∧ ∀ h, h ≠ g → t.prb[groupIdx h] = s.prb[groupIdx h])
    ∧ (∀ (r : Request) (items : List Item), Taken .substituteEnd s r items → natOf items 0x10 = (groupIdx g).val →
        (s.prb[groupIdx g].state ≠ .substituted → OnlyAnswers .substituteEnd s r (plain .wrongState))
        ∧ (s.prb[groupIdx g].state = .substituted → Ends .substituteEnd s fun t =>
            Answered s t r (plain .done) ∧ t.prb[groupIdx g] = woken ∧ powerSwitch t g = true
            ∧ Frame [.intake, .path, .probes] s t ∧ ∀ h, h ≠ g → t.prb[groupIdx h] = s.prb[groupIdx h]))
    ∧ (∀ (r : Request) (items : List Item), s.link.intake.head? = some r → canTake s = true → r.kind = 0x22 →
        checkBody r = .ok items → natOf items 0x10 = (groupIdx g).val → settling s (profileOfGroup g) = true →
        OnlyAnswers .substituteEnd s r (plain .settling))

/-- GROUP_SAMPLE judges each channel by its mark and mask alone (R42, R54); RECORD_STALE turns the GOOD records past
the stale limit in effect STALE (R44), which is the schedule's, in NIGHT_HOLD scaled by the night factor and limited to
65535 (R28, R39); each brings its update to the thresholds and the jobs (R43, R45, R59, R82 to
R85, R96, R97, R128, R132, R142 to R146, R150; the order of notices is log 9, the waiting transfers log 3, the update
of a sample that changes no record log 10, the derate factor's rounding log 22, the fog cap ahead of the flag log
41). -/
def Obligations.SamplesAndStaleRecords : Prop :=
  ∀ (s : State) (g : Group),
    (effectiveStale s g = s.prb[groupIdx g].schedule.map fun x =>
        min 65535 (x.stale * (if s.ops.part = .nightHold then (plantValues s).night else 1)))
    ∧ (∀ k : Fin 8, enabled s g k = true ↔ ∃ x, s.prb[groupIdx g].schedule = some x ∧ x.mask.getLsbD k.val = true)
    ∧ (∀ v : Vector Int 8, s.prb[groupIdx g].state = .waking → s.prb[groupIdx g].wake = some 0 →
      Ends (.groupSample g v) s fun t =>
        t.prb[groupIdx g].state = .asleep ∧ t.prb[groupIdx g].wake = none
        ∧ t.prb[groupIdx g].period = s.prb[groupIdx g].period ∧ powerSwitch t g = false
        ∧ (∀ k : Fin 8,
          let fit := enabled s g k = true ∧ (reading s g k).mark = .passed
          let within := -5000 ≤ v[k] ∧ v[k] ≤ rangeHigh g k
          (fit → within → reading t g k = { reading s g k with value := v[k], age := 0, quality := .good })
          ∧ (fit → ¬within → reading t g k = { reading s g k with quality := .range })
          ∧ (¬fit → reading t g k = { reading s g k with quality := .absent }))
        ∧ (∀ h, h ≠ g → t.prb[groupIdx h] = s.prb[groupIdx h])
        ∧ Updated (fun h => h == g) s t)
    ∧ (∀ limit, effectiveStale s g = some limit → Ends (.recordStale g) s fun t =>
        (∀ k : Fin 8, reading t g k =
          if (reading s g k).quality = .good ∧ limit < (reading s g k).age then
            { reading s g k with quality := .stale }
          else reading s g k)
        ∧ (∀ h, h ≠ g → t.prb[groupIdx h] = s.prb[groupIdx h])
        ∧ Updated (fun h => h == g && qualityDiffers s t g) s t)

/-- SUBSTITUTE: its three checks, then the eight values stand as the group's records and the jobs take them (R43, R50,
R51; the order of notices is log 9, the waiting transfers log 3, the update of a substitution that changes no record
log 10, the derate factor's rounding log 22, the fog cap ahead of the flag log 41). -/
def Obligations.SubstituteTakesTheValues : Prop :=
  ∀ (s : State) (r : Request) (items : List Item) (g : Group),
    Taken .substitute s r items → natOf items 0x10 = (groupIdx g).val →
    let permitted := (s.ops.part = .run ∨ s.ops.part = .fallback) ∧ (s.plt.ice = .hold ∨ s.plt.ice = .practice)
      ∧ g ∉ s.ops.sweepList
    (¬permitted → OnlyAnswers .substitute s r (plain .wrongState))
    ∧ (permitted → Ends .substitute s fun t =>
        Answered s t r (plain .done) ∧ t.prb[groupIdx g].state = .substituted ∧ t.prb[groupIdx g].period = none
        ∧ t.prb[groupIdx g].wake = none ∧ t.prb[groupIdx g].subLimit = some (natOf items 0x12)
        ∧ powerSwitch t g = false
        ∧ (∀ (k : Fin 8) (v : Int), (valuesOf items 0x11)[k.val]? = some v →
            reading t g k = { reading s g k with value := v, quality := .substituted, age := 0 })
        ∧ (∀ h, h ≠ g → t.prb[groupIdx h] = s.prb[groupIdx h])
        ∧ Updated (fun h => h == g) s t)

/-! ### Condition array and gates -/

/-- BASE_TICK: inputs, second divider, tick views and gates latched from the cells' outputs after the clock events of
step 1 and the samples of step 2, the edges that the latch gives taken after it (R61), counting inputs, occupancy and
surge (R56, R70, R72, R73, R74), and what the gates that changed bring (R77, R81, R90, R129, R145, R148, R154, R158),
the gates of one event together (R132, R133, R136, R149); the order in which they are handed on, and the one hand-out
for zones inhibited together, is log 9; that a PLANT_BOOST held back counts from its next change on is log 36, the fog
cap ahead of the flag log 41. Step 1 is not taken again where the row of a completion has taken it (log 8); the ages of
the surge list are differences of tick counts modulo 2 to the 32nd (log 28); the waiting transfers are log 3. -/
def Obligations.BaseTickReadsAndLatches : Prop :=
  ∀ (s : State) (fi : Vector Bool 8) (entry exit : Bool), s.cnd.baseDue = true →
    Ends (.baseTick fi entry exit) s fun t =>
      let clocked := if s.cnd.clocksTaken then s.cnd.cells else evalCells s (tickClocks s (dividerWraps s))
      let sampled := evalCells
        { s with cnd.cells := clocked, cnd.fi := fi, cnd.crowdSurge := t.cnd.crowdSurge } fun _ => false
      let latched := Vector.ofFn fun k : Fin 16 => { sampled[k] with tickView := sampled[k].out }
      t.cnd.baseDue = false ∧ t.cnd.clocksTaken = false ∧ t.cnd.fi = fi ∧ t.cnd.entryLevel = entry
      ∧ t.cnd.exitLevel = exit
      ∧ (∀ k : Fin 16, t.cnd.cells[k].tickView = sampled[k].out)
      ∧ t.cnd.cells = evalCells { t with cnd.cells := latched } (fun _ => false) ∧ sync t = t
      ∧ t.cnd.divider =
          (if s.cnd.clocksTaken then s.cnd.divider else if 99 ≤ s.cnd.divider then 0 else s.cnd.divider + 1)
      ∧ (∀ g : Fin 14, t.cnd.gates[g].binding = s.cnd.gates[g].binding
          ∧ (s.cnd.gates[g].binding = none → t.cnd.gates[g].level = false)
          ∧ (∀ k, s.cnd.gates[g].binding = some k → t.cnd.gates[g].level = sampled[k].out))
      ∧ GatesActed s t
      ∧ t.fgw.fogSeen = (if t.cnd.gates[1].level = s.cnd.gates[1].level then s.fgw.fogSeen else t.cnd.gates[1].level)
      ∧ t.evl.hazeInhibit =
          (if t.cnd.gates[2].level = s.cnd.gates[2].level then s.evl.hazeInhibit else t.cnd.gates[2].level)
      ∧ t.evl.strobeInhibit =
          (if t.cnd.gates[3].level = s.cnd.gates[3].level then s.evl.strobeInhibit else t.cnd.gates[3].level)
      ∧ t.fgw.doorOpen =
          (if t.cnd.gates[4].level = s.cnd.gates[4].level then s.fgw.doorOpen else t.cnd.gates[4].level)
      ∧ (s.cnd.settings = none → t.cnd.occupancy = s.cnd.occupancy ∧ t.cnd.surge = s.cnd.surge
          ∧ t.cnd.crowdSurge = s.cnd.crowdSurge)
      ∧ (∀ k, s.cnd.settings = some k → ∃ came went : Bool,
          PhaseStep k.entryDebounce s.cnd.entryPhase t.cnd.entryPhase entry came
          ∧ PhaseStep k.exitDebounce s.cnd.exitPhase t.cnd.exitPhase exit went
          ∧ (let after := if came then min 30000 (s.cnd.occupancy + 1) else s.cnd.occupancy
             let kept := s.cnd.surge.filter fun x => decide ((s.tick - x).toNat < k.surgeWindow)
             let joined := if came then kept ++ [s.tick] else kept
             t.cnd.occupancy = (if went then after - 1 else after)
             ∧ t.cnd.surge = (if k.surgeCount + 1 < joined.length then joined.tail else joined)
             ∧ (t.cnd.crowdSurge = true ↔ k.surgeCount < t.cnd.surge.length)))
      ∧ (t.cnd.occupancy ≠ s.cnd.occupancy → LoadPosting.occupancy t.cnd.occupancy ∈ t.transit.loads)

/-- The condition cells. The sources and the two views of a cell (R55, R61); one evaluation of a cell in each mode, for
every level and every phase: the clock event first, then the edges (R61, R62, R64 to R68); the cells brought up to date
in ascending order, CHAIN clocks passed on (R61, R63), by an event that has changed a source (`sync`) and, with the
clocks of BASE and SECOND, by step 1 of a base tick (R56). Then the five completions of a cell's count at its clock
event, and the edge on its trigger if there is one. The row of a completion takes the whole of step 1, with every
cell's clock, and BASE_TICK, when it comes, ends as it would have without it; that they come as events of their own is
the model's reading (log 8), and so is the count of 0 after them (log 32). -/
def Obligations.CellCountsComplete : Prop :=
  (∀ level : Bool,
    edgeSelects .rise level = level ∧ edgeSelects .fall level = !level ∧ edgeSelects .both level = true)
  ∧ (∀ s : State, SourcesRead s) ∧ (∀ (s : State) (cells : Vector Cell 16) (k : Fin 16), SlotsSee s cells k)
  ∧ (∀ (l0 l1 l2 : Bool) (c : Cell), CellEvaluated l0 l1 l2 c)
  ∧ (∀ (s : State) (clocks : Fin 16 → Bool), BroughtUpToDate s clocks (evalCells s clocks))
  ∧ (∀ s : State, sync s = { s with cnd.cells := evalCells s fun _ => false }
    ∧ (dividerWraps s = true ↔ 99 ≤ s.cnd.divider)
    ∧ ∀ (wraps : Bool) (k : Fin 16), tickClocks s wraps k = true ↔
      cellClock s.cnd.cells[k].config = some .base
        ∨ (wraps = true ∧ cellClock s.cnd.cells[k].config = some .second))
  ∧ ∀ (s : State) (k : Fin 16), s.cnd.baseDue = true → s.cnd.clocksTaken = false →
    (cellClock s.cnd.cells[k].config = some .base
      ∨ (cellClock s.cnd.cells[k].config = some .second ∧ 99 ≤ s.cnd.divider)
      ∨ (cellClock s.cnd.cells[k].config = some .chain ∧ chainsInto s k = true)) →
    let first := fun t : State => t.cnd.clocksTaken = true ∧ t.cnd.baseDue = true
      ∧ t.cnd.cells = evalCells s (tickClocks s (dividerWraps s))
      ∧ ∀ (fi : Vector Bool 8) (entry exit : Bool),
        exec (.baseTick fi entry exit) t = exec (.baseTick fi entry exit) s
    (∀ trigger count clock sel level, s.cnd.cells[k].config = .delay trigger count clock sel →
      s.cnd.cells[k].phase = .pending level → count ≤ s.cnd.cells[k].n + 1 → Ends (.delayComplete k) s fun t =>
        let now := viewLevel s t.cnd.cells k trigger
        first t ∧ t.cnd.cells[k].n = 0
        ∧ (now = s.cnd.cells[k].seen0 → t.cnd.cells[k].out = level ∧ t.cnd.cells[k].phase = .idle)
        ∧ (now ≠ s.cnd.cells[k].seen0 → edgeSelects sel now = true →
            t.cnd.cells[k].out = level ∧ t.cnd.cells[k].phase = .pending now)
        ∧ (now ≠ s.cnd.cells[k].seen0 → edgeSelects sel now = false →
            t.cnd.cells[k].out = now ∧ t.cnd.cells[k].phase = .idle))
    ∧ (∀ trigger count clock sel, s.cnd.cells[k].config = .oneshot trigger count clock sel →
      s.cnd.cells[k].phase = .pulse → count ≤ s.cnd.cells[k].n + 1 → Ends (.oneshotPulseEnd k) s fun t =>
        let again := viewLevel s t.cnd.cells k trigger ≠ s.cnd.cells[k].seen0
          ∧ edgeSelects sel (viewLevel s t.cnd.cells k trigger) = true
        first t ∧ t.cnd.cells[k].n = 0
        ∧ (again → t.cnd.cells[k].out = true ∧ t.cnd.cells[k].phase = .pulse)
        ∧ (¬again → t.cnd.cells[k].out = false ∧ t.cnd.cells[k].phase = .idle))
    ∧ (∀ trigger count clock sel, s.cnd.cells[k].config = .rate trigger count clock sel →
      s.cnd.cells[k].phase = .open → count ≤ s.cnd.cells[k].n + 1 → Ends (.rateWindowClose k) s fun t =>
        let again := viewLevel s t.cnd.cells k trigger ≠ s.cnd.cells[k].seen0
          ∧ edgeSelects sel (viewLevel s t.cnd.cells k trigger) = true
        first t ∧ t.cnd.cells[k].n = 0 ∧ t.cnd.cells[k].out = false
        ∧ (again → t.cnd.cells[k].phase = .open) ∧ (¬again → t.cnd.cells[k].phase = .idle))
    ∧ (∀ trigger clock sel, s.cnd.cells[k].config = .edge trigger clock sel →
      s.cnd.cells[k].phase = .pulse → Ends (.edgePulseEnd k) s fun t =>
        let again := viewLevel s t.cnd.cells k trigger ≠ s.cnd.cells[k].seen0
          ∧ edgeSelects sel (viewLevel s t.cnd.cells k trigger) = true
        first t
        ∧ (again → t.cnd.cells[k].out = true ∧ t.cnd.cells[k].phase = .pulse)
        ∧ (¬again → t.cnd.cells[k].out = false ∧ t.cnd.cells[k].phase = .idle))
    ∧ (∀ restart pause count clock, s.cnd.cells[k].config = .count restart pause count clock →
      s.cnd.cells[k].seen1 = false → s.cnd.cells[k].seen2 = false → count ≤ s.cnd.cells[k].n + 1 →
      Ends (.countTerminal k) s fun t =>
        first t ∧ t.cnd.cells[k].out = true ∧ t.cnd.cells[k].n = 0)

/-- CELL SET: the cell takes its mode and items with output inactive and timer idle, each slot's level as its source
stands; a TABLE cell is evaluated at once, and the cells that name it follow (R60, R61, R62). -/
def Obligations.CellSetStartsAfresh : Prop :=
  ∀ (s : State) (r : Request) (items : List Item) (k : Fin 16),
    Taken .cellSet s r items → natOf items 0x10 = k.val → Ends .cellSet s fun t =>
      let slots := cellSlots (cellConfigOf items)
      let fresh := Vector.ofFn fun j : Fin 16 =>
        if j = k then
          { config := cellConfigOf items, out := false, tickView := s.cnd.cells[k].tickView, phase := .idle, n := 0,
            seen0 := viewLevel s s.cnd.cells k slots.1, seen1 := viewLevel s s.cnd.cells k slots.2.1,
            seen2 := viewLevel s s.cnd.cells k slots.2.2 }
        else s.cnd.cells[j]
      Answered s t r (plain .done) ∧ t.cnd.cells[k].config = cellConfigOf items
      ∧ (∀ j, j ≠ k → t.cnd.cells[j].config = s.cnd.cells[j].config)
      ∧ t.cnd.cells = evalCells { t with cnd.cells := fresh } (fun _ => false) ∧ sync t = t
      ∧ (cellConfigOf items = .none → t.cnd.cells[k].out = false)
      ∧ (∀ a b c outcomes, cellConfigOf items = .table a b c outcomes →
          t.cnd.cells[k].out = outcomes.getLsbD
            (selector (viewLevel s t.cnd.cells k a) (viewLevel s t.cnd.cells k b) (viewLevel s t.cnd.cells k c)))
      ∧ (2 ≤ natOf items 0x11 → natOf items 0x11 ≤ 5 →
          viewLevel s t.cnd.cells k (slotOfItem items 0x12) = viewLevel s s.cnd.cells k (slotOfItem items 0x12) →
          t.cnd.cells[k].out = false ∧ t.cnd.cells[k].phase = .idle ∧ t.cnd.cells[k].n = 0)
      ∧ (6 ≤ natOf items 0x11 → t.cnd.cells[k].out = false ∧ t.cnd.cells[k].n = 0)

/-- THRESHOLD SET, GATE BIND, COUNTER SET and OCCUPANCY SET (R58, R59, R71, R72, R73); the waiting posting of the
occupancy is log 3. -/
def Obligations.ThresholdsGatesAndCountersAreSet : Prop :=
  ∀ (s : State) (r : Request) (items : List Item),
    (Taken .thresholdSet s r items → ∀ i : Fin 8, natOf items 0x10 = i.val → Ends .thresholdSet s fun t =>
      let ch : Fin 40 := Fin.ofNat 40 (natOf items 0x11)
      Answered s t r (doneWith [(0x10, flag t.cnd.thresholds[i].active)])
      ∧ (∀ j, j ≠ i → t.cnd.thresholds[j] = s.cnd.thresholds[j]) ∧ CellsFollow s t
      ∧ (countOf items 0x11 = 0 → t.cnd.thresholds[i] = { items := none, active := false })
      ∧ (countOf items 0x11 ≠ 0 →
          t.cnd.thresholds[i].items = some
            { channel := ch, limit := intOf items 0x12, direction := directionOf (natOf items 0x13),
              hysteresis := intOf items 0x14 }
          ∧ (usableValue s (groupOfChannel ch) (placeOfChannel ch) = none → t.cnd.thresholds[i].active = false)
          ∧ ∀ v, usableValue s (groupOfChannel ch) (placeOfChannel ch) = some v →
            (natOf items 0x13 = 0 → (t.cnd.thresholds[i].active = true ↔ intOf items 0x12 < v))
            ∧ (natOf items 0x13 = 1 → (t.cnd.thresholds[i].active = true ↔ v < intOf items 0x12))))
    ∧ (Taken .gateBind s r items → ∀ g : Fin 14, natOf items 0x10 = g.val → Ends .gateBind s fun t =>
      Answered s t r (doneWith [(0x10, flag s.cnd.gates[g].level)])
      ∧ t.cnd.gates[g] =
        { binding := (valueOf items 0x11).map (fun v => Fin.ofNat 16 v.toNat), level := s.cnd.gates[g].level }
      ∧ ∀ j, j ≠ g → t.cnd.gates[j] = s.cnd.gates[j])
    ∧ (Taken .counterSet s r items → Ends .counterSet s fun t =>
      Answered s t r (plain .done)
      ∧ t.cnd.settings = some
        { entryDebounce := natOf items 0x10, exitDebounce := natOf items 0x11, surgeCount := natOf items 0x12,
          surgeWindow := natOf items 0x13 }
      ∧ t.cnd.entryPhase = (if s.cnd.entryLevel then .held else .low)
      ∧ t.cnd.exitPhase = (if s.cnd.exitLevel then .held else .low)
      ∧ t.cnd.surge = [] ∧ t.cnd.crowdSurge = false ∧ t.cnd.occupancy = s.cnd.occupancy ∧ CellsFollow s t)
    ∧ (Taken .occupancySet s r items → Ends .occupancySet s fun t =>
      Answered s t r (doneWith [(0x10, ub 2 s.cnd.occupancy)])
      ∧ t.cnd.occupancy = natOf items 0x10
      ∧ t.transit.loads =
        if natOf items 0x10 = s.cnd.occupancy then s.transit.loads
        else s.transit.loads ++ [.occupancy (natOf items 0x10)])

/-! ### Ice plant -/

/-- ICE MODE: the moves of R79, the substitution check, the change with its effects, the reply and the notice (R79, R80;
the waiting transfers are log 3). -/
def Obligations.IceModeMovesTheIce : Prop :=
  ∀ (s : State) (r : Request) (items : List Item) (dest : IceState),
    Taken .iceMode s r items → natOf items 0x10 = iceCode dest →
    (¬IceMove s.plt.ice dest → OnlyAnswers .iceMode s r (plain .wrongState))
    ∧ (IceMove s.plt.ice dest → dest = .game ∨ dest = .covered → (∃ g, s.prb[groupIdx g].state = .substituted) →
        OnlyAnswers .iceMode s r (plain .wrongState))
    ∧ (IceMove s.plt.ice dest →
        ((dest = .game ∨ dest = .covered) → ∀ g, s.prb[groupIdx g].state ≠ .substituted) →
        Ends .iceMode s fun t =>
          Answered s t r (doneWith [(0x10, ub 1 (iceCode dest)), (0x11, ub 1 (iceCode s.plt.ice))])
          ∧ IceChanged s t dest
            (if dest = .resurface then modeOfIce s.plt.ice else if dest = .recover then s.plt.prior else none)
          ∧ CellsFollow s t
          ∧ lastNotice t = some (note s .iceState 0 (iceCode dest) (iceCode s.plt.ice)))

/-- Soft watch, soft clear and the recover limit: into SOFT with both notices, and back to the prior state (R83, R84,
R85; the waiting transfers are log 3). -/
def Obligations.SoftIceAndReturns : Prop :=
  ∀ s : State,
    (∀ m : Int, s.plt.softWatch = some 0 → s.plt.mean = some m → Ends .softWatchExpiry s fun t =>
      IceChanged s t .soft (if s.plt.prior.isSome then s.plt.prior else modeOfIce s.plt.ice)
      ∧ t.plt.softWatch = none ∧ CellsFollow s t
      ∧ lastNotice t = some (note s .softIce 0 m (bandHigh s))
      ∧ t.link.notices.dropLast.getLast? = some (note s .iceState 0 (iceCode .soft) (iceCode s.plt.ice)))
    ∧ (∀ m : IceMode, s.plt.softClear = some 0 → s.plt.prior = some m → Ends .softClearExpiry s fun t =>
      IceChanged s t (iceOfMode m) none ∧ t.plt.softClear = none ∧ CellsFollow s t
      ∧ lastNotice t = some (note s .iceState 0 (iceCode (iceOfMode m)) (iceCode s.plt.ice)))
    ∧ (∀ m : IceMode, s.plt.recover = some 0 → s.plt.prior = some m → Ends .recoverLimitExpiry s fun t =>
      IceChanged s t (iceOfMode m) none ∧ CellsFollow s t
      ∧ lastNotice t = some (note s .iceState 0 (iceCode (iceOfMode m)) (iceCode s.plt.ice)))

/-- The falling RESURFACE entry at each second of RECOVER (R83), and a raise request applied under the ceiling of the
ice state, with the soft watch and the stage decision that follow it (R84, R86, R87, R90; the waiting transfers are log
3). -/
def Obligations.RecoverSecondsAndRaises : Prop :=
  ∀ s : State,
    (s.plt.secondDue = true → s.plt.ice = .recover → exec .recoverSecond s = .next { s with
      plt.secondDue := false,
      transit.loads := s.transit.loads ++ [.plant { PlantUpdate.empty with
        resurface := some ((plantValues s).flood * ((plantValues s).recoverLimit - s.plt.recoverTicks)
          / (plantValues s).recoverLimit) }] })
    ∧ (∀ (r : Int) (rest : List Int), s.transit.raises = r :: rest →
      (running s = false → exec .raiseRequest s = .next { s with transit.raises := rest, plt.request := r })
      ∧ (running s = true → Ends .raiseRequest s fun t =>
          t.transit.raises = rest ∧ t.plt.request = r ∧ t.plt.applied = min r (raiseCeiling s)
          ∧ t.plt.brineOut = bandLow t - (plantValues s).approach
          ∧ (fogRaise t ≠ fogRaise s →
              LoadPosting.plant { PlantUpdate.empty with fogRaise := some (fogRaise t) } ∈ t.transit.loads)
          ∧ (t.plt.applied ≠ s.plt.applied →
              Watched (SoftHolds t) (plantValues s).softDelay s.plt.softWatch t.plt.softWatch)
          ∧ (surfaceCorrection t ≠ surfaceCorrection s → decideOnce t = none)))

/-- The confirm inputs, the start limit and the stop time, with the supply that follows the stages, and of a lockout
the capacity on its way and STAGE_LOCKOUT, in stage order where several lock out at one reading, and the stage decision
taken again after each change until it changes nothing (R90 to R93, R95, R96; that stage order and the one decision
after six inputs are the model's choice, log 13, the waiting transfers are log 3). -/
def Obligations.StageInputsAndTimers : Prop :=
  ∀ s : State,
    (∀ levels : Vector Bool 6, s.plt.confirmDue = true → Ends (.confirmRead levels) s fun t =>
      let lost (n : Fin 6) : Bool := s.plt.stages[n].state == .running && !levels[n]
      let confirmed (n : Fin 6) : Bool :=
        s.plt.stages[n].state == .starting && levels[n] && decide (0 < s.plt.stages[n].ticks)
      t.plt.confirmDue = false ∧ SupplyFollows s t
      ∧ (running s = true → (∃ n, lost n = true ∨ confirmed n = true) → decideOnce t = none)
      ∧ ((∀ n, lost n = false ∧ confirmed n = false) → t = { s with
          plt.confirmDue := false,
          plt.stages := Vector.ofFn fun n : Fin 6 => { s.plt.stages[n] with confirm := levels[n] } })
      ∧ t.link.notices = joinAll s.link.notices
          (((List.finRange 6).filter lost).map fun n => note s .stageLockout (n.val + 1) 2 2)
      ∧ ((∃ n, lost n = true) →
          LoadPosting.plant { PlantUpdate.empty with capacity := some (notLockedCapacity t) } ∈ t.transit.loads)
      ∧ ((∀ n, lost n = false) → t.transit.loads = s.transit.loads)
      ∧ ∀ n : Fin 6,
        t.plt.stages[n].confirm = levels[n]
        ∧ (s.plt.stages[n].state = .running → levels[n] = false →
            t.plt.stages[n].state = .lockedOut ∧ t.plt.stages[n].cause = .confirmLost)
        ∧ (confirmed n = true → t.plt.stages[n].startTimer = none ∧ t.plt.stages[n].ticks = 0
            ∧ (t.plt.stages[n].state = .running
              ∨ (running s = true ∧ (stageValues s n).minRun = 0 ∧ t.plt.stages[n].state = .stopping
                  ∧ t.plt.stages[n].stopTimer = some (stageValues s n).stopTime)))
        ∧ (s.plt.stages[n].state = .starting → levels[n] = false → t.plt.stages[n].state = .starting)
        ∧ (s.plt.stages[n].state = .lockedOut → t.plt.stages[n].state = .lockedOut))
    ∧ (∀ n : Fin 6, s.plt.stages[n].startTimer = some 0 → Ends (.startLimitExpiry n) s fun t =>
      t.plt.stages[n].state = .lockedOut ∧ t.plt.stages[n].cause = .noConfirm ∧ t.plt.stages[n].startTimer = none
      ∧ runLine t n = false ∧ SupplyFollows s t ∧ (running s = true → decideOnce t = none)
      ∧ (s.plt.stages[n].state ≠ .lockedOut → t.transit.loads
          = s.transit.loads ++ [.plant { PlantUpdate.empty with capacity := some (notLockedCapacity t) }])
      ∧ lastNotice t = some (note s .stageLockout (n.val + 1) 1 (stageCode s.plt.stages[n].state)))
    ∧ (∀ n : Fin 6, s.plt.stages[n].stopTimer = some 0 → Ends (.stopTimeExpiry n) s fun t =>
      (0 < (stageValues s n).minOff → t.plt.stages[n].state = .off)
      ∧ (t.plt.stages[n].state = .off ∨ t.plt.stages[n].state = .starting)
      ∧ t.plt.stages[n].cause = .none ∧ t.plt.stages[n].stopTimer = none ∧ t.plt.stages[n].ticks = 0
      ∧ SupplyFollows s t ∧ (running s = true → decideOnce t = none))

/-- STAGE LOCK: LOCK and UNLOCK, the capacity and the supply posted, the stage decision taken again until it changes
nothing, the reply (R90, R94, R95, R96; the waiting transfers are log 3). -/
def Obligations.StageLockAndUnlock : Prop :=
  ∀ (s : State) (r : Request) (items : List Item) (n : Fin 6), natOf items 0x10 = n.val + 1 →
    (Taken .stageLockLock s r items →
      (s.plt.stages[n].state = .lockedOut → OnlyAnswers .stageLockLock s r
        (doneWith [(0x10, ub 1 4), (0x11, ub 1 (lockCode s.plt.stages[n].cause))]))
      ∧ (s.plt.stages[n].state ≠ .lockedOut → Ends .stageLockLock s fun t =>
          Answered s t r (doneWith [(0x10, ub 1 4), (0x11, ub 1 3)])
          ∧ t.plt.stages[n].state = .lockedOut ∧ t.plt.stages[n].cause = .host
          ∧ t.plt.stages[n].startTimer = none ∧ t.plt.stages[n].stopTimer = none ∧ runLine t n = false
          ∧ LoadPosting.plant { PlantUpdate.empty with capacity := some (notLockedCapacity t) } ∈ t.transit.loads
          ∧ SupplyFollows s t ∧ (running s = true → decideOnce t = none)
          ∧ lastNotice t = some (note s .stageLockout (n.val + 1) 3 (stageCode s.plt.stages[n].state))))
    ∧ (Taken .stageLockUnlock s r items →
      (s.plt.stages[n].state ≠ .lockedOut → OnlyAnswers .stageLockUnlock s r (plain .wrongState))
      ∧ (s.plt.stages[n].state = .lockedOut → Ends .stageLockUnlock s fun t =>
          Answered s t r (doneWith [(0x10, ub 1 (stageCode t.plt.stages[n].state)), (0x11, ub 1 0)])
          ∧ (0 < (stageValues s n).minOff → t.plt.stages[n].state = .off)
          ∧ (t.plt.stages[n].state = .off ∨ t.plt.stages[n].state = .starting)
          ∧ t.plt.stages[n].cause = .none ∧ SupplyFollows s t ∧ (running s = true → decideOnce t = none)
          ∧ LoadPosting.plant { PlantUpdate.empty with capacity := some (notLockedCapacity t) } ∈ t.transit.loads))

/-- The required and the online capacity (R89), and the stage decision: what one taking of it starts, stops or leaves
(`Starts`, `Stops`, `NothingToDecide`), and how a table update and a passed minimum bring it again and again until it
changes nothing, the supply following; before the entry to RUN it is not taken (R77, R90, R91, R95, R96). That a
PLANT_BOOST active at the entry to RUN counts for nothing until it changes is log 36; that the decision is taken when
the table update arrives, log 3. -/
def Obligations.StageDecision : Prop :=
  ∀ s : State,
    (∃ boosted : Nat,
      requiredCapacity s = s.ilt.total
        + ((match s.plt.mean with
          | none => 0
          | some m => ((m - bandHigh s).toNat + 9) / 10 * (plantValues s).gain : Nat) : Int) + boosted
      ∧ (s.cnd.gates[5].level = false ∨ s.plt.boostHeld = true → boosted = 0)
      ∧ (s.cnd.gates[5].level = true → s.plt.boostHeld = false →
          (∀ n : Fin 6, s.plt.stages[n].state = .off → (∀ m : Fin 6, m < n → s.plt.stages[m].state ≠ .off) →
            boosted = (stageValues s n).capacity)
          ∧ ((∀ n : Fin 6, s.plt.stages[n].state ≠ .off) → boosted = 0)))
    ∧ onlineCapacity s = (sumOver 6 fun n =>
        if s.plt.stages[n].state = .starting ∨ s.plt.stages[n].state = .running then (stageValues s n).capacity else 0)
    ∧ (decideOnce s = none ↔ NothingToDecide s)
    ∧ (∀ n : Fin 6, Starts s n → ∃ u, decideOnce s = some u ∧ u.plt.stages[n] = startedStage s n
        ∧ (running s = true → runLine u n = true) ∧ ∀ m, m ≠ n → u.plt.stages[m] = s.plt.stages[m])
    ∧ (∀ n : Fin 6, Stops s n → ∃ u, decideOnce s = some u ∧ u.plt.stages[n] = stoppedStage s n
        ∧ runLine u n = false ∧ ∀ m, m ≠ n → u.plt.stages[m] = s.plt.stages[m])
    ∧ (running s = true →
      (∀ k : Nat, s.transit.tableUpdates = k + 1 → Ends .tableUpdate s fun t =>
        DecisionTaken { s with transit.tableUpdates := k } t)
      ∧ (∀ n : Fin 6, s.plt.stages[n].minDue = true → Ends (.minimumPassed n) s fun t =>
          DecisionTaken { s with plt.stages := upd s.plt.stages n fun st => { st with minDue := false } } t))
    ∧ (running s = false →
      (∀ k : Nat, s.transit.tableUpdates = k + 1 →
        exec .tableUpdate s = .next { s with transit.tableUpdates := k })
      ∧ (∀ n : Fin 6, s.plt.stages[n].minDue = true → exec (.minimumPassed n) s = .next
          { s with plt.stages := upd s.plt.stages n fun st => { st with minDue := false } }))

/-! ### Ice load table -/

/-- A posting reaches the table: the figures are stored, the entries, raw sum, total and admission capacity formed, the
table update and the table change handed on; before the entry to RUN the figures are only stored, STANDS as posted
among them, and the first forming takes them up; what a posting does not carry stays as it stood (R99 to R106, R108;
the waiting postings are log 3). -/
def Obligations.LoadPostingFormsTheTable : Prop :=
  ∀ (s : State) (poster : LoadPoster) (front back : List LoadPosting) (p : LoadPosting),
    s.transit.loads = front ++ p :: back → loadPosterOf p = poster → (∀ q ∈ front, loadPosterOf q ≠ poster) →
    Ends (.loadTablePosting poster) s fun t =>
      let live := s.ilt.live = true ∨ ∃ u, p = .plant u
      t.transit.loads = front ++ back
      ∧ t.ilt.occupancy = (match p with | .occupancy n => n | _ => s.ilt.occupancy)
      ∧ t.ilt.lightLoad = (match p with | .lighting n => n | _ => s.ilt.lightLoad)
      ∧ t.ilt.posted = (match p with | .stands n => n | _ => s.ilt.posted)
      ∧ (let u := match p with | .plant u => u | _ => PlantUpdate.empty
         t.ilt.base = ((u.base.map Int.ofNat).getD s.ilt.base)
         ∧ t.ilt.resurface = ((u.resurface.map Int.ofNat).getD s.ilt.resurface)
         ∧ t.ilt.fogRaise = u.fogRaise.getD s.ilt.fogRaise ∧ t.ilt.factor = u.factor.getD s.ilt.factor
         ∧ t.ilt.capacity = u.capacity.getD s.ilt.capacity ∧ t.ilt.crowdPer = u.crowd.or s.ilt.crowdPer
         ∧ t.ilt.reserve = u.reserve.or s.ilt.reserve ∧ t.ilt.exitMargin = u.exitMargin.or s.ilt.exitMargin)
      ∧ t.ilt.hold = s.ilt.hold
      ∧ (live → t.ilt.live = true
          ∧ t.ilt.crowd = ((t.ilt.occupancy * t.ilt.crowdPer.getD 0 / 1000 : Nat) : Int)
          ∧ t.ilt.lighting = ((t.ilt.lightLoad * t.ilt.factor / 100 : Nat) : Int)
          ∧ t.ilt.stands = (t.ilt.posted : Int)
          ∧ t.ilt.rawSum = t.ilt.base + t.ilt.crowd + t.ilt.lighting + t.ilt.stands + t.ilt.resurface + t.ilt.fogRaise
          ∧ t.ilt.total = max t.ilt.rawSum 0
          ∧ t.ilt.admission = max ((t.ilt.capacity : Int) - (t.ilt.reserve.getD 0 : Nat)) 0
          ∧ t.transit.tableUpdates = s.transit.tableUpdates + 1
          ∧ t.transit.tableChanges = s.transit.tableChanges + 1)
      ∧ (¬live → t.ilt.total = s.ilt.total ∧ t.ilt.rawSum = s.ilt.rawSum ∧ t.ilt.stands = s.ilt.stands
          ∧ t.ilt.crowd = s.ilt.crowd ∧ t.ilt.lighting = s.ilt.lighting ∧ t.ilt.admission = s.ilt.admission
          ∧ t.ilt.dwell = s.ilt.dwell
          ∧ t.ilt.live = false ∧ t.transit.tableUpdates = s.transit.tableUpdates
          ∧ t.transit.tableChanges = s.transit.tableChanges ∧ t.ilt.overBudget = s.ilt.overBudget)

/-- OVER_BUDGET: set at a posting above the admission capacity, the plant coordinator's update at the entry to RUN being
the first that is judged (R104), cleared at the end of the exit dwell, judged again when
the clear hold ends; each change posts its notice and goes to spectator heating (R107, R108). The waiting transfers are
log 3, the poster that the row names log 25. -/
def Obligations.OverBudgetSetHeldAndCleared : Prop :=
  ∀ s : State,
    (∀ (poster : LoadPoster) (front back : List LoadPosting) (p : LoadPosting),
      s.ilt.live = true ∨ (∃ u, p = .plant u) → s.transit.loads = front ++ p :: back → loadPosterOf p = poster →
      (∀ q ∈ front, loadPosterOf q ≠ poster) → Ends (.loadTablePosting poster) s fun t =>
        (t.ilt.overBudget = s.ilt.overBudget → t.cnd.cells = s.cnd.cells)
        ∧ (t.ilt.overBudget ≠ s.ilt.overBudget → CellsFollow s t)
        ∧ (s.ilt.overBudget = true → t.ilt.overBudget = true
          ∧ (t.ilt.total ≤ t.ilt.admission - (t.ilt.exitMargin.getD 0 : Nat) →
              t.ilt.dwell = if s.ilt.dwell.isSome then s.ilt.dwell else some 100)
          ∧ (t.ilt.admission - (t.ilt.exitMargin.getD 0 : Nat) < t.ilt.total → t.ilt.dwell = none))
        ∧ (s.ilt.overBudget = false → s.ilt.hold = none →
            (t.ilt.overBudget = true ↔ t.ilt.admission < t.ilt.total)
            ∧ (t.ilt.admission < t.ilt.total →
                t.transit.caps = s.transit.caps ++ [.overBudget true]
                ∧ lastNotice t = some (note s .overBudget 0 t.ilt.total t.ilt.admission)))
        ∧ (s.ilt.overBudget = false → s.ilt.hold ≠ none → t.ilt.overBudget = false))
    ∧ (s.ilt.dwell = some 0 → Ends .exitDwellExpiry s fun t =>
      t.ilt = { s.ilt with overBudget := false, dwell := none, hold := some 1 } ∧ sourceLevel t 40 = false
        ∧ CellsFollow s t
      ∧ t.transit.caps = s.transit.caps ++ [.overBudget false]
      ∧ lastNotice t = some (note s .overBudget 0 s.ilt.total s.ilt.admission))
    ∧ (s.ilt.hold = some 0 → s.ilt.admission < s.ilt.total → Ends .clearHoldExpiry s fun t =>
      t.ilt = { s.ilt with overBudget := true, hold := none } ∧ sourceLevel t 40 = true ∧ CellsFollow s t
      ∧ t.transit.caps = s.transit.caps ++ [.overBudget true]
      ∧ lastNotice t = some (note s .overBudget 0 s.ilt.total s.ilt.admission))
    ∧ (s.ilt.hold = some 0 → s.ilt.total ≤ s.ilt.admission →
      exec .clearHoldExpiry s = .next { s with ilt.hold := none })

/-- The admission test, and the largest fraction that a TRIM may start with (R109, R167). -/
def Obligations.AdmissionTestAndTrim : Prop :=
  ∀ (t : Ilt) (radiant : Nat),
    (t.test radiant).load = radiant * t.factor / 100
    ∧ (t.test radiant).projected =
      max (t.rawSum - t.lighting + max t.lighting ((radiant * t.factor / 100 : Nat) : Int)) 0
    ∧ (t.test radiant).capacity = t.admission
    ∧ ((t.test radiant).admitted = true ↔ (t.test radiant).projected ≤ t.admission)
    ∧ bestFraction t radiant 1000 ≤ 1000
    ∧ (bestFraction t radiant 1000 ≠ 0 →
        (t.test ((radiant * bestFraction t radiant 1000 + 999) / 1000)).admitted = true)
    ∧ ∀ f, bestFraction t radiant 1000 < f → f ≤ 1000 → (t.test ((radiant * f + 999) / 1000)).admitted = false

/-! ### Heat allocation -/

/-- A posting reaches the table and, once a supply has been posted, a pass shares the supply by class, posts
HEAT_SHORTFALL for the rows that enter STARVED and hands its grants back; the figures of the rows it does not name stay
(R112 to R121; the waiting postings and hand-backs are log 3). -/
def Obligations.HeatPostingMakesAPass : Prop :=
  ∀ (s : State) (poster : HeatPoster) (front back : List HeatPosting) (p : HeatPosting),
    HeatAccounted s → s.transit.heats = front ++ p :: back → heatPosterOf p = poster →
    (∀ q ∈ front, heatPosterOf q ≠ poster) → Ends (.heatTablePosting poster) s fun t =>
      t.transit.heats = front ++ back ∧ CellsFollow s t
      ∧ (∀ v d, p = .plant (some v) d → t.hat.supply = v ∧ t.hat.posted = true)
      ∧ ((∀ v d, p ≠ .plant (some v) d) → t.hat.supply = s.hat.supply ∧ t.hat.posted = s.hat.posted)
      ∧ (∀ x v, p = .plant x (some v) →
          t.hat.rows[0].posted = v ∧ t.hat.rows[0].demand = min v s.hat.rows[0].max)
      ∧ (∀ d c, p = .fogWatch d c →
          t.hat.rows[1].posted = d ∧ t.hat.rows[1].demand = min d s.hat.rows[1].max ∧ t.hat.rows[1].cls = c)
      ∧ (∀ demands : List (Fin 8 × Nat), p = .zones demands → (demands.map Prod.fst).Nodup → ∀ z : Fin 8,
          (∀ v, (z, v) ∈ demands → t.hat.rows[zoneRow z].posted = v
            ∧ t.hat.rows[zoneRow z].demand = min v s.hat.rows[zoneRow z].max)
          ∧ (z ∉ demands.map Prod.fst → t.hat.rows[zoneRow z].posted = s.hat.rows[zoneRow z].posted
            ∧ t.hat.rows[zoneRow z].demand = s.hat.rows[zoneRow z].demand))
      ∧ (∀ r : Fin 11,
          let named := match p with
            | .plant _ d => r = 0 ∧ d ≠ none
            | .fogWatch _ _ => r = 1
            | .zones demands => ∃ z, z ∈ demands.map Prod.fst ∧ r = zoneRow z
          t.hat.rows[r].max = s.hat.rows[r].max
          ∧ (¬named → t.hat.rows[r].posted = s.hat.rows[r].posted ∧ t.hat.rows[r].demand = s.hat.rows[r].demand)
          ∧ ((∀ d c, p ≠ .fogWatch d c) ∨ r ≠ 1 → t.hat.rows[r].cls = s.hat.rows[r].cls))
      ∧ (t.hat.posted = true → Passed s t)
      ∧ (t.hat.posted = false → t.hat.used = s.hat.used ∧ t.transit.zoneGrants = s.transit.zoneGrants
          ∧ t.transit.desiccants = s.transit.desiccants ∧ t.link.notices = s.link.notices
          ∧ ∀ r : Fin 11, t.hat.rows[r].grant = s.hat.rows[r].grant)

/-- MELT DEMAND: the demand formed, the pass made, and the reply built after it (R112, R122; the packing of the reply
is log 11, the waiting hand-backs are log 3). -/
def Obligations.MeltDemandIsServedAtOnce : Prop :=
  ∀ (s : State) (r : Request) (items : List Item), HeatAccounted s → Taken .meltDemand s r items →
    Ends .meltDemand s fun t =>
      Answered s t r (doneWith
        [(0x10, ub 2 (natOf items 0x10)), (0x11, ub 2 (min (natOf items 0x10) s.hat.rows[10].max)),
         (0x12, ub 2 t.hat.rows[10].grant ++ ub 1 (rowCode t.hat.rows[10].state)), (0x13, ub 2 t.hat.used)])
      ∧ t.hat.rows[10].posted = natOf items 0x10 ∧ CellsFollow s t
      ∧ t.hat.rows[10].demand = min (natOf items 0x10) s.hat.rows[10].max
      ∧ (s.hat.posted = true → Passed s t)
      ∧ (s.hat.posted = false → t.transit.zoneGrants = s.transit.zoneGrants ∧ t.hat.used = s.hat.used)

/-! ### Spectator heating -/

/-- ZONE SET: OFF, SETBACK and OCCUPIED with its entry test; refused in NIGHT_HOLD (R128, R129, R130; the waiting
transfers are log 3, the packing of the reply log 11, OFF on a zone that is OFF log 22). -/
def Obligations.ZoneSetMovesTheZone : Prop :=
  ∀ (s : State) (r : Request) (items : List Item) (z : Fin 8) (row : Instr), natOf items 0x10 = z.val + 1 →
    row = .zoneSetOff ∨ row = .zoneSetSetback ∨ row = .zoneSetOccupied → Taken row s r items →
    (s.ops.part = .nightHold → OnlyAnswers row s r (plain .wrongState))
    ∧ (s.ops.part ≠ .nightHold → Ends row s fun t =>
        Answered s t r (doneWith [(0x10, ub 1 (zoneCode t.sph.zones[z].state)),
          (0x11, optU 1 (t.sph.zones[z].remembered.map zoneCode)), (0x12, optTemp t.sph.zones[z].target),
          (0x13, ub 2 t.sph.zones[z].demand)])
        ∧ (row = .zoneSetOff → ZoneSetTo s t z s.sph.zones[z].target .off)
        ∧ (row = .zoneSetSetback → ZoneSetTo s t z s.sph.zones[z].target .setback)
        ∧ (row = .zoneSetOccupied → ZoneSetTo s t z (some (intOf items 0x12))
            (match zoneTemp s z with
              | none => .preheat
              | some temp => if temp < intOf items 0x12 - 100 then .preheat else .occupied)))

/-- A hand-back of grants and a passed minimum on bring the hand-out and STANDS; the preheat limit ends PREHEAT and
posts the zone's new demand (R121, R128, R132 to R136; the waiting transfers are log 3). -/
def Obligations.ZoneEventsMoveHeat : Prop :=
  ∀ s : State,
    (∀ (grants : Vector (Nat × RowState) 8) (rest : List (Vector (Nat × RowState) 8)),
      s.transit.zoneGrants = grants :: rest → Ends .zoneGrantHandback s fun t =>
        let given := { s with sph.zones := Vector.ofFn fun z : Fin 8 =>
          { s.sph.zones[z] with grant := grants[z].1, row := grants[z].2 } }
        t.transit.zoneGrants = rest ∧ HandedOut given t ∧ t.sph.stands = standsFigure t
        ∧ t.transit.loads = if standsFigure t = s.sph.stands then s.transit.loads
            else s.transit.loads ++ [.stands (standsFigure t)])
    ∧ (∀ (z : Fin 8) (n : Fin 3), s.sph.zones[z].heaters[n].on = true → s.sph.zones[z].heaters[n].minOn = some 0 →
      Ends (.minimumOnExpiry z n) s fun t =>
        let passed := setZone s z fun zone =>
          { zone with heaters := upd zone.heaters n fun st => { st with minOn := none } }
        HandedOut passed t ∧ t.sph.stands = standsFigure t
        ∧ t.transit.loads = if standsFigure t = s.sph.stands then s.transit.loads
            else s.transit.loads ++ [.stands (standsFigure t)])
    ∧ (∀ z : Fin 8, s.sph.zones[z].state = .preheat → s.sph.zones[z].preheat = some 0 →
      Ends (.preheatLimitExpiry z) s fun t =>
        t.sph.zones[z].state = .occupied ∧ t.sph.zones[z].preheat = none
        ∧ t.sph.zones[z].raw = heldDemand s z (s.sph.zones[z].target.getD 0)
        ∧ t.sph.zones[z].demand = t.sph.zones[z].raw * zoneCap s z / 100
        ∧ (∀ y, y ≠ z → t.sph.zones[y] = s.sph.zones[y]) ∧ DemandsPosted s t)

/-- A near-ice input is kept, the demand of every near-ice zone formed again under the smallest cap, and the changed
demands posted together (R131, R132; the waiting transfers are log 3). -/
def Obligations.NearIceInputsCapTheDemand : Prop :=
  ∀ (s : State) (poster : CapPoster) (front back : List CapInput) (c : CapInput),
    s.transit.caps = front ++ c :: back → capPosterOf c = poster → (∀ q ∈ front, capPosterOf q ≠ poster) →
    Ends (.nearIceCapInput poster) s fun t =>
      t.transit.caps = front ++ back ∧ DemandsPosted s t
      ∧ t.sph.fogCap = (match c with | .fogCap n => n | _ => s.sph.fogCap)
      ∧ t.sph.secondary = (match c with | .secondary b => b | _ => s.sph.secondary)
      ∧ t.sph.overBudget = (match c with | .overBudget b => b | _ => s.sph.overBudget)
      ∧ t.sph.soft = (match c with | .soft b => b | _ => s.sph.soft)
      ∧ (running s = false → t.sph.zones = s.sph.zones)
      ∧ (running s = true → ∀ z : Fin 8,
          ((zoneValues s z).nearIce = false → t.sph.zones[z] = s.sph.zones[z])
          ∧ ((zoneValues s z).nearIce = true →
              let cap :=
                if t.sph.soft = true ∨ t.sph.secondary = true then 0
                else min (min 100 t.sph.fogCap) (if t.sph.overBudget then (heatValues s).budgetCap else 100)
              t.sph.zones[z] = { s.sph.zones[z] with raw := rawFigure s z, demand := rawFigure s z * cap / 100 }))

/-! ### Fog watch -/

/-- The fog watch's timers and the DESICCANT hand-back, with the outputs formed and the changed ones on their way (R144,
R146, R147, R149, R150, R151; the waiting transfers are log 3, the cap ahead of the flag log 41). -/
def Obligations.FogTimersAndHandback : Prop :=
  ∀ s : State,
    (s.fgw.dwell = some 0 → Ends .descendDwellExpiry s fun t =>
      t.fgw.level = fogOfRank ((fogRank s.fgw.level).val - 1) ∧ t.fgw.haze = !foggy t.fgw.level
      ∧ lastNotice t = some (note s .fogLevel 0 (fogRank t.fgw.level).val (fogRank s.fgw.level).val)
      ∧ Watched (DwellHolds t) (fogValues s).dwell none t.fgw.dwell ∧ StarveJudged s t ∧ CellsFollow s t
      ∧ OutputsFormed t ∧ OutputsPosted s t)
    ∧ (s.fgw.blind = some 0 → Ends .fogBlindExpiry s fun t =>
      t.fgw.blind = none ∧ CellsFollow s t ∧ t.fgw.level = (if foggy s.fgw.level then s.fgw.level else .alert)
      ∧ lastNotice t = some (note s .fogBlind 0 (fogRank t.fgw.level).val (fogRank s.fgw.level).val)
      ∧ (foggy s.fgw.level = false → t.fgw.haze = false ∧ StarveJudged s t ∧ OutputsFormed t ∧ OutputsPosted s t))
    ∧ (s.fgw.starve = some 0 → Ends .starveExpiry s fun t =>
      t.fgw.starve = none ∧ t.fgw.secondary = true ∧ t.fgw.postedRaise = 300 ∧ OutputsFormed t ∧ OutputsPosted s t)
    ∧ (∀ (grant : Nat) (row : RowState) (rest : List (Nat × RowState)), s.transit.desiccants = (grant, row) :: rest →
      Ends .desiccantHandback s fun t =>
        t.transit.desiccants = rest ∧ t.fgw.grant = grant ∧ t.fgw.row = row
        ∧ (t.fgw.weak = true ↔ WeakHolds t) ∧ StarveJudged s t ∧ OutputsFormed t ∧ OutputsPosted s t)

/-! ### Event lighting -/

/-- CUE STORE and LIST ERASE hold the dispatcher for their writes; the record, the memory and the reply at the end
(R159, R160, R161; the code of a replaced cue is log 35). An erase posts CUE_DROPPED with cause ERASED for each entry it
drops, the posted ones in queue order, then the deferred one. -/
def Obligations.CueMemoryWrites : Prop :=
  ∀ s : State,
    (∀ (r : Request) (items : List Item), Taken .cueStore s r items →
      let c := cueOf items
      let full := findCue s.evl.memory c.list c.number = none
        ∧ (256 ≤ s.evl.memory.length ∨ 64 ≤ (listCues s.evl.memory c.list).length)
      (full → OnlyAnswers .cueStore s r (plain .noSpace))
      ∧ (¬full → exec .cueStore s = .next { s with
          link.intake := s.link.intake.tail,
          link.dispatcher := .storing r.tag c (1 + (c.entries.length + 7) / 8) }))
    ∧ (∀ tag c, s.link.dispatcher = .storing tag c 0 → Ends .cueStoreComplete s fun t =>
      findCue t.evl.memory c.list c.number = some c
      ∧ (∀ list number, ¬(list = c.list ∧ number = c.number) →
          findCue t.evl.memory list number = findCue s.evl.memory list number)
      ∧ t.link.dispatcher = .free
      ∧ Replied s t { tag := tag, kind := 0xE0, restart := false, body := (doneWith
          [(0x10, flag (findCue s.evl.memory c.list c.number).isSome),
           (0x11, ub 1 (listCues t.evl.memory c.list).length), (0x12, ub 1 (256 - t.evl.memory.length))]).body })
    ∧ (∀ (r : Request) (items : List Item), Taken .listErase s r items →
      exec .listErase s = .next { s with
        link.intake := s.link.intake.tail,
        link.dispatcher := .erasing r.tag (natOf items 0x10)
          (max 1 (listCues s.evl.memory (natOf items 0x10)).length) })
    ∧ (∀ tag list, s.link.dispatcher = .erasing tag list 0 → Ends .listEraseComplete s fun t =>
      t.evl.memory = s.evl.memory.filter (fun c => c.list != list)
      ∧ t.evl.posted = s.evl.posted.filter (fun e => e.list != list)
      ∧ (∀ d, s.evl.deferred = some d → t.evl.deferred = if d.list = list then none else some d)
      ∧ (s.evl.deferred = none → t.evl.deferred = none)
      ∧ (∀ n, s.evl.position = some (list, n) → t.evl.position = none ∧ t.evl.follow = none)
      ∧ (∀ l n, s.evl.position = some (l, n) → l ≠ list →
          t.evl.position = some (l, n) ∧ t.evl.follow = s.evl.follow)
      ∧ t.link.notices = joinAll s.link.notices
          ((s.evl.posted.filter fun e => e.list == list).map (fun e => note s .cueDropped e.list e.number 3)
            ++ (s.evl.deferred.toList.filter fun d => d.list == list).map
              fun d => note s .cueDropped d.list d.number 3)
      ∧ t.link.dispatcher = .free
      ∧ Replied s t { tag := tag, kind := 0xE2, restart := false, body := (doneWith
          [(0x10, ub 1 (listCues s.evl.memory list).length),
           (0x11, ub 1 (s.evl.posted.filter fun e => e.list == list).length),
           (0x12, flag (s.evl.deferred.any fun d => d.list == list))]).body })

/-- GO: refused in NIGHT_HOLD and without a cue; posted; or admitted, started with FORCE or TRIM, or deferred, by the
table's test (R164, R166 to R170). The figures of a TRIM (of the test for the load started with) and the none result of
a deferral are log 11, the none fraction of any other start log 35, the order of a dropped cue and what follows it log
39; the waiting postings are log 3, due ticks kept as ticks left log 29, the cue itself kept in the slot log 26, the
table that the test of a follow of 0 in the event is asked of log 42. -/
def Obligations.GoStartsPostsOrDefers : Prop :=
  ∀ (s : State) (r : Request) (items : List Item) (row : Instr), CueMemoryFits s → Taken row s r items →
    row = .goCue ∨ row = .goNext →
    (s.ops.part = .nightHold → OnlyAnswers row s r (plain .wrongState))
    ∧ (s.ops.part ≠ .nightHold → NamesNone row s items → OnlyAnswers row s r (plain .notFound))
    ∧ (s.ops.part ≠ .nightHold → ∀ c, NamedBy row s items c →
        let post := ((valueOf items 0x13).map Int.toNat).getD c.post
        let test := s.ilt.test c.load
        let figures := fun (v : Verdict) => [(0x11, ub 2 v.load), (0x12, ub 2 v.projected.toNat),
          (0x13, ub 2 v.capacity.toNat)]
        (0 < post → 4 ≤ s.evl.posted.length → OnlyAnswers row s r (plain .noSpace))
        ∧ (0 < post → s.evl.posted.length < 4 → Ends row s fun t =>
            Answered s t r
              { outcome := .accepted, items := [(0x10, ub 4 (s.tick + BitVec.ofNat 32 post).toNat)] }
            ∧ Joined s.evl.posted t.evl.posted { list := c.list, number := c.number, left := post }
            ∧ t.evl = { s.evl with posted := t.evl.posted } ∧ t.link.notices = s.link.notices
            ∧ t.transit = s.transit)
        ∧ (post = 0 → OneEach c → test.admitted = true → Ends row s fun t =>
            Answered s t r (doneWith ((0x10, ub 1 0 ++ [0xFF, 0xFF]) :: figures test))
            ∧ CueRuns s t c 1000 c.load fun u => Displaced s u c)
        ∧ (post = 0 → OneEach c → test.admitted = false → c.policy = .force → Ends row s fun t =>
            Answered s t r (doneWith ((0x10, ub 1 1 ++ [0xFF, 0xFF]) :: figures test))
            ∧ CueRuns s t c 1000 c.load fun u => Displaced s u c)
        ∧ (post = 0 → OneEach c → test.admitted = false → c.policy = .trim → Ends row s fun t =>
            let f := bestFraction s.ilt c.load 1000
            Answered s t r (doneWith ((0x10, ub 1 2 ++ ub 2 f) :: figures (s.ilt.test ((c.load * f + 999) / 1000))))
            ∧ (CueRuns s t c f ((c.load * f + 999) / 1000) fun u => Displaced s u c
                ∧ lastNotice u = some (note s .cueTrimmed c.list c.number f)))
        ∧ (post = 0 → test.admitted = false → c.policy = .defer → Ends row s fun t =>
            Answered s t r { outcome := .deferred, items := (0x10, [0xFF, 0xFF, 0xFF]) :: figures test }
            ∧ DeferredInto s t c
            ∧ (s.evl.deferred = none → t.link.notices = s.link.notices)
            ∧ (∀ d, s.evl.deferred = some d → lastNotice t = some (note s .cueDropped d.list d.number 0))))

/-- Due entries, table changes and the defer limit (R165, R166, R168 to R170). Of several entries due at one tick the
first is admitted, and the row goes on with the next in the state which that leaves: each sees the results of the one
before. The waiting table changes and postings are log 3, a lighting load on its way between two admissions of one
event log 42, the order of CUE_DROPPED and CUE_DEFERRED in one event log 39, a row without a due entry log 2. -/
def Obligations.QueuedCuesComeToTheirTurn : Prop :=
  ∀ s : State,
    ((∀ e, s.evl.posted.head? = some e → 0 < e.left) → exec .postedCueDue s = .next s)
    ∧ (∀ (e : PostedCue) (rest : List PostedCue), s.evl.posted = e :: rest → e.left = 0 → rest.length ≤ 3 →
      (findCue s.evl.memory e.list e.number = none →
        exec .postedCueDue s = exec .postedCueDue { s with evl.posted := rest })
      ∧ (∀ c, findCue s.evl.memory e.list e.number = some c → OneEach c → ∃ u t : State,
          let base := { s with evl.posted := rest }
          AdmittedBy (fun f load P => CueRuns base u c f load fun v => Displaced base v c ∧ P v) base u c
          ∧ (¬Chains c ∨ c.policy = .defer ∧ (s.ilt.test c.load).admitted = false → u.evl.posted = rest)
          ∧ u.ilt = s.ilt ∧ u.evl.memory = s.evl.memory
          ∧ exec .postedCueDue u = .next t ∧ exec .postedCueDue s = .next t))
    ∧ (∀ (e : PostedCue) (rest : List PostedCue), s.evl.posted = e :: rest → e.left = 0 →
      (∀ x ∈ rest, 0 < x.left) →
      (findCue s.evl.memory e.list e.number = none → exec .postedCueDue s = .next { s with evl.posted := rest })
      ∧ (∀ c, findCue s.evl.memory e.list e.number = some c → OneEach c → Ends .postedCueDue s fun t =>
          let base := { s with evl.posted := rest }
          AdmittedBy (fun f load P => CueRuns base t c f load fun u => Displaced base u c ∧ P u) base t c
          ∧ (¬Chains c ∨ c.policy = .defer ∧ (s.ilt.test c.load).admitted = false → t.evl.posted = rest)
          ∧ (c.policy = .defer → (s.ilt.test c.load).admitted = false →
              lastNotice t = some (note s .cueDeferred c.list c.number c.load))))
    ∧ (∀ k, s.transit.tableChanges = k + 1 →
      (s.evl.deferred = none → exec .tableChangeRetry s = .next { s with transit.tableChanges := k })
      ∧ (∀ d c, s.evl.deferred = some d → findCue s.evl.memory d.list d.number = some c →
          ((s.ilt.test c.load).admitted = false →
            exec .tableChangeRetry s = .next { s with transit.tableChanges := k })
          ∧ ((s.ilt.test c.load).admitted = true → OneEach c → Ends .tableChangeRetry s fun t =>
            t.transit.tableChanges = k
            ∧ CueRuns { s with evl.deferred := none, transit.tableChanges := k } t c 1000 c.load fun u =>
                u.evl.deferred = none ∧ lastNotice u = some (note s .cueLateStart d.list d.number d.spent))))
    ∧ (∀ d, s.evl.deferred = some d → d.left = 0 → Ends .deferExpiry s fun t =>
      t.evl = { s.evl with deferred := none }
      ∧ lastNotice t = some (note s .cueDropped d.list d.number 1))

/-- Fades tick by tick, their ends, the fade end with its follow, and the period boundary (R154, R155, R156, R170). A
fade that has reached its duration stands at its to-level; its record is removed by CHANNEL_FADE_END, or by the fade end
that comes with it (log 23); a fade keeps its elapsed ticks (log 29); the waiting postings are log 3. A start that a
follow makes, and the one that its own follow of 0 makes, ask the table as it stood before the event (log 42);
CUE_TRIMMED stands ahead of what that second follow posts (log 39). -/
def Obligations.FadesAndFollows : Prop :=
  ∀ s : State,
    (∀ (ch : Fin 24) (f : Fade), s.evl.dimmers[ch].fade = some f → f.elapsed < f.duration →
      (passTick s).evl.dimmers[ch] = { s.evl.dimmers[ch] with
        fade := some { f with elapsed := f.elapsed + 1 },
        working := if f.elapsed + 1 = f.duration then f.goal else ((f.start : Int)
          + (((f.goal : Int) - (f.start : Int)) * ((f.elapsed + 1 : Nat) : Int)).tdiv (f.duration : Int)).toNat })
    ∧ (∀ (ch : Fin 24) (f : Fade), s.evl.dimmers[ch].fade = some f → f.duration ≤ f.elapsed →
      Ends (.channelFadeEnd ch) s fun t =>
        t.evl.dimmers[ch] = { s.evl.dimmers[ch] with working := f.goal, fade := none }
        ∧ ∀ other, other ≠ ch → t.evl.dimmers[other] = s.evl.dimmers[other])
    ∧ (∀ ch : Fin 24, s.evl.dimmers[ch].driven = true → Ends (.channelPeriodBoundary ch) s fun t =>
        t.evl.dimmers[ch] =
          { s.evl.dimmers[ch] with applied := s.evl.dimmers[ch].working, cls := some (lightValues s).classes[ch] }
        ∧ dimmerOutput t ch = some s.evl.dimmers[ch].working
        ∧ ∀ other, other ≠ ch → t.evl.dimmers[other] = s.evl.dimmers[other])
    ∧ (∀ c : RecentCue, s.evl.fadeEnd = some 0 → s.evl.recent = some c →
      (c.follow = none ∨ s.evl.position = none → exec .fadeEndExpiry s = .next (afterFadeEnd s c.load))
      ∧ (∀ n p, c.follow = some (n + 1) → s.evl.position = some p →
        exec .fadeEndExpiry s = .next { afterFadeEnd s c.load with evl.follow := some (n + 1) })
      ∧ (∀ p, c.follow = some 0 → s.evl.position = some p → CueMemoryFits s → Ends .fadeEndExpiry s fun t =>
        let base := afterFadeEnd s c.load
        FollowMade base t
        ∧ ∀ next, NextCue s next → next.post = 0 → OneEach next →
          AdmittedBy (fun f load P => CueRuns base t next f load fun u => Displaced base u next ∧ P u) base t next))
    ∧ (s.evl.follow = some 0 → CueMemoryFits s → Ends .followExpiry s fun t =>
      let base := { s with evl.follow := none }
      FollowMade base t
      ∧ ∀ c, NextCue s c → c.post = 0 → OneEach c →
        AdmittedBy (fun f load P => CueRuns base t c f load fun u => Displaced base u c ∧ P u) base t c)

/-- RELEASE drops what waits, each with CUE_DROPPED of cause RELEASED, the posted entries in queue order and then the
deferred cue, and fades every driven channel out; its end (R171; the waiting posting of the lighting load is log 3). -/
def Obligations.ReleaseAndItsEnd : Prop :=
  ∀ s : State,
    (∀ (r : Request) (items : List Item), Taken .release s r items → Ends .release s fun t =>
      let time := natOf items 0x10
      Answered s t r (doneWith [(0x10, ub 1 s.evl.posted.length), (0x11, flag s.evl.deferred.isSome)])
      ∧ t.evl.posted = [] ∧ t.evl.deferred = none ∧ t.evl.fadeEnd = none ∧ t.evl.follow = none
      ∧ t.link.notices = joinAll s.link.notices
          (s.evl.posted.map (fun e => note s .cueDropped e.list e.number 2)
            ++ s.evl.deferred.toList.map fun d => note s .cueDropped d.list d.number 2)
      ∧ t.evl.want0 = s.evl.want0 ∧ t.evl.want2 = s.evl.want2 ∧ t.evl.want3 = s.evl.want3
      ∧ t.evl.pulse = s.evl.pulse
      ∧ t.transit.loads = (if t.evl.lightLoad = s.evl.lightLoad then s.transit.loads
          else s.transit.loads ++ [.lighting t.evl.lightLoad])
      ∧ (0 < time → t.evl.play = .releasing ∧ t.evl.releaseTimer = some time
          ∧ t.evl.lightLoad = s.evl.lightLoad
          ∧ ∀ ch : Fin 24, s.evl.dimmers[ch].driven = true → t.evl.dimmers[ch] = { s.evl.dimmers[ch] with
              fade := some { start := s.evl.dimmers[ch].working, goal := 0, elapsed := 0, duration := time } })
      ∧ (time = 0 → t.evl.play = .idle ∧ t.evl.releaseTimer = none ∧ t.evl.position = none ∧ t.evl.lightLoad = 0
          ∧ ∀ ch : Fin 24, s.evl.dimmers[ch].driven = true →
              t.evl.dimmers[ch] = { s.evl.dimmers[ch] with working := 0, fade := none })
      ∧ (∀ ch : Fin 24, s.evl.dimmers[ch].driven = false → t.evl.dimmers[ch] = s.evl.dimmers[ch]))
    ∧ (s.evl.releaseTimer = some 0 → Ends .releaseTimerExpiry s fun t =>
      t.evl = { s.evl with releaseTimer := none, play := .idle, position := none, lightLoad := 0 }
      ∧ t.transit.loads = if s.evl.lightLoad = 0 then s.transit.loads else s.transit.loads ++ [.lighting 0])

/-- EFFECT SET, STROBE with its interval and its inhibit gate, the end of a flash (R157, R158; that EFFECT SET's reply
has one item for each wanted state and each line is log 11). -/
def Obligations.EffectsAndStrobe : Prop :=
  ∀ s : State,
    (∀ (r : Request) (items : List Item), Taken .effectSet s r items →
      (s.ops.part = .nightHold → OnlyAnswers .effectSet s r (plain .wrongState))
      ∧ (s.ops.part ≠ .nightHold → Ends .effectSet s fun t =>
          t.evl = { s.evl with
            want0 := ((valueOf items 0x10).map fun v => v == 1).getD s.evl.want0,
            want2 := ((valueOf items 0x11).map fun v => v == 1).getD s.evl.want2,
            want3 := ((valueOf items 0x12).map fun v => v == 1).getD s.evl.want3 }
          ∧ (lineE0 t = true ↔ t.evl.want0 = true ∧ t.fgw.haze = true ∧ t.evl.hazeInhibit = false)
          ∧ lineE1 t = s.evl.pulse.isSome ∧ lineE2 t = t.evl.want2 ∧ lineE3 t = t.evl.want3
          ∧ Answered s t r (doneWith
            [(0x10, flag t.evl.want0), (0x10, flag t.evl.want2), (0x10, flag t.evl.want3), (0x11, flag (lineE0 t)),
             (0x11, flag (lineE1 t)), (0x11, flag (lineE2 t)), (0x11, flag (lineE3 t))])))
    ∧ (∀ (r : Request) (items : List Item), Taken .strobe s r items →
      let soon := ∃ n, s.evl.sinceFlash = some n ∧ n < (lightValues s).strobeInterval
      (s.ops.part = .nightHold → OnlyAnswers .strobe s r (plain .wrongState))
      ∧ (s.ops.part ≠ .nightHold → s.evl.strobeInhibit = false → ¬soon → Ends .strobe s fun t =>
          Answered s t r (doneWith [(0x10, ub 1 0)]) ∧ lineE1 t = true
          ∧ t.evl = { s.evl with
            pulse := some (lightValues s).strobePulse, sinceFlash := some 0, dropReported := false })
      ∧ (s.ops.part ≠ .nightHold → s.evl.strobeInhibit = true ∨ soon → Ends .strobe s fun t =>
          Answered s t r (doneWith [(0x10, ub 1 (if s.evl.strobeInhibit then 2 else 1))])
          ∧ t.evl = { s.evl with dropReported := true }
          ∧ (s.evl.dropReported = true → t.link.notices = s.link.notices)
          ∧ (s.evl.dropReported = false → lastNotice t = some (note s .strobeLimit 0
              (if s.evl.strobeInhibit then 1 else 0) ((s.evl.sinceFlash.getD 65535 : Nat) : Int)))))
    ∧ (s.evl.pulse = some 0 → exec .strobePulseExpiry s = .next { s with evl.pulse := none })

/-! ### Invariants that every step keeps -/

/-- The queues, the reply path with its reserved place and the cue memory keep their capacities and their order. -/
def Obligations.StoresKeepTheirCapacities : Prop :=
  ∀ s t : State, QueuesFit s ∧ CueMemoryFits s → step s = .next t → QueuesFit t ∧ CueMemoryFits t

/-- The ice keeps its prior-state rule, and no game is played on substituted readings (R50, R78, R79). -/
def Obligations.IceStatesStayLegal : Prop :=
  ∀ s t : State, PriorStateRule s ∧ SubstitutionExcludesPlay s → step s = .next t →
    PriorStateRule t ∧ SubstitutionExcludesPlay t

/-- One stage starts at a time (R90). -/
def Obligations.OneStageStartsAtATime : Prop := ∀ s t : State, OneStarting s → step s = .next t → OneStarting t

/-- The haze permission follows the fog level (R147). -/
def Obligations.HazePermissionFollowsTheLevel : Prop :=
  ∀ s t : State, HazeFollowsLevel s → step s = .next t → HazeFollowsLevel t

/-- The heat granted and rejected is the supply used (R116). -/
def Obligations.HeatIsConserved : Prop := ∀ s t : State, HeatAccounted s → step s = .next t → HeatAccounted t

/-- The electric stages never exceed their cap (R134). -/
def Obligations.ElectricCapIsKept : Prop := ∀ s t : State, ElectricWithinCap s → step s = .next t → ElectricWithinCap t

/-- The machine after reset meets every invariant. -/
def Obligations.ResetMeetsTheInvariants : Prop :=
  QueuesFit State.reset ∧ CueMemoryFits State.reset ∧ PriorStateRule State.reset
  ∧ SubstitutionExcludesPlay State.reset ∧ OneStarting State.reset ∧ HazeFollowsLevel State.reset
  ∧ HeatAccounted State.reset ∧ ElectricWithinCap State.reset
end

