-- ==== Sys2Proof/Laws/Frame.lean ====
section
/-! SUPPORT. The calculus of frames: a frame is reflexive, composes, and widens; and what each part of it says. -/

namespace Sys2Proof.Machine

open Sys2Proof

theorem agree_refl (p : Part) (s : State) : agree p s s := by
  cases p <;> simp [agree]

theorem agree_trans {p : Part} {s t u : State} (h : agree p s t) (k : agree p t u) : agree p s u := by
  cases p <;> simp_all [agree]

theorem Frame.refl (may : List Part) (s : State) : Frame may s s := fun p _ => agree_refl p s

theorem Frame.trans {may : List Part} {s t u : State} (h : Frame may s t) (k : Frame may t u) : Frame may s u :=
  fun p hp => agree_trans (h p hp) (k p hp)

theorem Frame.widen {may more : List Part} {s t : State} (h : Frame may s t) (sub : may ⊆ more) : Frame more s t :=
  fun p hp => h p fun hm => hp (sub hm)

/-- Two frames one after the other, under a list that holds the parts of both. -/
theorem Frame.seq {a b more : List Part} {s t u : State} (h : Frame a s t) (k : Frame b t u) (ha : a ⊆ more)
    (hb : b ⊆ more) : Frame more s u := (h.widen ha).trans (k.widen hb)

/-- A frame of a choice. -/
theorem Frame.ite {may : List Part} {s t u : State} {c : Prop} [Decidable c] (h : c → Frame may s t)
    (k : ¬c → Frame may s u) : Frame may s (if c then t else u) := by
  split
  · exact h ‹_›
  · exact k ‹_›

/-- A frame of a fold whose every step keeps it. -/
theorem Frame.foldl {α : Type} {may : List Part} (f : State → α → State) (h : ∀ s a, Frame may s (f s a)) :
    ∀ (l : List α) (s : State), Frame may s (l.foldl f s)
  | [], s => Frame.refl may s
  | a :: l, s => (h s a).trans (Frame.foldl f h l (f s a))

section
variable {may : List Part} {s t : State} (h : Frame may s t)
include h

theorem Frame.tick (hp : .tick ∉ may := by decide) : t.tick = s.tick := h _ hp
theorem Frame.intake (hp : .intake ∉ may := by decide) : t.link.intake = s.link.intake := h _ hp
theorem Frame.replies (hp : .path ∉ may := by decide) : t.link.replies = s.link.replies := (h _ hp).2.2.1
theorem Frame.tx (hp : .path ∉ may := by decide) : t.link.tx = s.link.tx := (h _ hp).2.2.2
theorem Frame.busyMark (hp : .path ∉ may := by decide) : t.link.busyMark = s.link.busyMark := (h _ hp).1
theorem Frame.overrun (hp : .path ∉ may := by decide) : t.link.overrun = s.link.overrun := (h _ hp).2.1
theorem Frame.dispatcher (hp : .dispatcher ∉ may := by decide) : t.link.dispatcher = s.link.dispatcher := h _ hp
theorem Frame.notices (hp : .notices ∉ may := by decide) : t.link.notices = s.link.notices := (h _ hp).1
theorem Frame.mode (hp : .mode ∉ may := by decide) : t.ops.part = s.ops.part := h _ hp
theorem Frame.silence (hp : .silence ∉ may := by decide) : t.ops.silence = s.ops.silence := h _ hp
theorem Frame.probes (hp : .probes ∉ may := by decide) : t.prb = s.prb := h _ hp
theorem Frame.thresholds (hp : .thresholds ∉ may := by decide) : t.cnd.thresholds = s.cnd.thresholds := h _ hp
theorem Frame.cells (hp : .cells ∉ may := by decide) : t.cnd.cells = s.cnd.cells := h _ hp
theorem Frame.gates (hp : .gates ∉ may := by decide) : t.cnd.gates = s.cnd.gates := h _ hp
theorem Frame.plantProfile (hp : .values ∉ may := by decide) : t.plt.profile = s.plt.profile := (h _ hp).1
theorem Frame.fogProfile (hp : .values ∉ may := by decide) : t.fgw.profile = s.fgw.profile := (h _ hp).2.1
theorem Frame.heatProfile (hp : .values ∉ may := by decide) : t.sph.profile = s.sph.profile := (h _ hp).2.2.1
theorem Frame.lightProfile (hp : .values ∉ may := by decide) : t.evl.profile = s.evl.profile := (h _ hp).2.2.2
theorem Frame.ice (hp : .ice ∉ may := by decide) : t.plt.ice = s.plt.ice := (h _ hp).1
theorem Frame.prior (hp : .ice ∉ may := by decide) : t.plt.prior = s.plt.prior := (h _ hp).2
theorem Frame.stages (hp : .stages ∉ may := by decide) : t.plt.stages = s.plt.stages := (h _ hp).1
theorem Frame.loadTable (hp : .loadTable ∉ may := by decide) : t.ilt = s.ilt := h _ hp
theorem Frame.heatTable (hp : .heatTable ∉ may := by decide) : t.hat = s.hat := h _ hp
theorem Frame.zones (hp : .zones ∉ may := by decide) : t.sph.zones = s.sph.zones := (h _ hp).1
theorem Frame.level (hp : .level ∉ may := by decide) : t.fgw.level = s.fgw.level := (h _ hp).1
theorem Frame.haze (hp : .level ∉ may := by decide) : t.fgw.haze = s.fgw.haze := (h _ hp).2
theorem Frame.memory (hp : .memory ∉ may := by decide) : t.evl.memory = s.evl.memory := h _ hp
theorem Frame.dimmers (hp : .dimmers ∉ may := by decide) : t.evl.dimmers = s.evl.dimmers := h _ hp
theorem Frame.posted (hp : .waiting ∉ may := by decide) : t.evl.posted = s.evl.posted := (h _ hp).1
theorem Frame.deferred (hp : .waiting ∉ may := by decide) : t.evl.deferred = s.evl.deferred := (h _ hp).2
theorem Frame.transit (hp : .transit ∉ may := by decide) : t.transit = s.transit := h _ hp
theorem Frame.pending (hp : .pending ∉ may := by decide) : t.pending = s.pending := h _ hp

theorem Frame.running (hp : .mode ∉ may := by decide) : Machine.running t = Machine.running s := by
  simp only [Machine.running, h.mode hp]

theorem Frame.plantValues (hp : .values ∉ may := by decide) : Machine.plantValues t = Machine.plantValues s := by
  simp only [Machine.plantValues, h.plantProfile hp]

theorem Frame.fogValues (hp : .values ∉ may := by decide) : Machine.fogValues t = Machine.fogValues s := by
  simp only [Machine.fogValues, h.fogProfile hp]

theorem Frame.heatValues (hp : .values ∉ may := by decide) : Machine.heatValues t = Machine.heatValues s := by
  simp only [Machine.heatValues, h.heatProfile hp]

theorem Frame.lightValues (hp : .values ∉ may := by decide) : Machine.lightValues t = Machine.lightValues s := by
  simp only [Machine.lightValues, h.lightProfile hp]

end

end Sys2Proof.Machine
end

