-- ==== Sys2Proof/Laws/State.lean ====
section
/-! SUPPORT. One lemma per field of State per shared update: what the update leaves, and what it puts there. -/

namespace Sys2Proof.Machine

open Sys2Proof

/-! ### A posted notice (R13) -/

@[simp] theorem post_tick (s : State) (k : NoticeKind) (x : Nat) (a b : Int) : (s.post k x a b).tick = s.tick := by
  unfold State.post; dsimp only; split <;> rfl
@[simp] theorem post_ops (s : State) (k : NoticeKind) (x : Nat) (a b : Int) : (s.post k x a b).ops = s.ops := by
  unfold State.post; dsimp only; split <;> rfl
@[simp] theorem post_prb (s : State) (k : NoticeKind) (x : Nat) (a b : Int) : (s.post k x a b).prb = s.prb := by
  unfold State.post; dsimp only; split <;> rfl
@[simp] theorem post_cnd (s : State) (k : NoticeKind) (x : Nat) (a b : Int) : (s.post k x a b).cnd = s.cnd := by
  unfold State.post; dsimp only; split <;> rfl
@[simp] theorem post_plt (s : State) (k : NoticeKind) (x : Nat) (a b : Int) : (s.post k x a b).plt = s.plt := by
  unfold State.post; dsimp only; split <;> rfl
@[simp] theorem post_ilt (s : State) (k : NoticeKind) (x : Nat) (a b : Int) : (s.post k x a b).ilt = s.ilt := by
  unfold State.post; dsimp only; split <;> rfl
@[simp] theorem post_hat (s : State) (k : NoticeKind) (x : Nat) (a b : Int) : (s.post k x a b).hat = s.hat := by
  unfold State.post; dsimp only; split <;> rfl
@[simp] theorem post_sph (s : State) (k : NoticeKind) (x : Nat) (a b : Int) : (s.post k x a b).sph = s.sph := by
  unfold State.post; dsimp only; split <;> rfl
@[simp] theorem post_fgw (s : State) (k : NoticeKind) (x : Nat) (a b : Int) : (s.post k x a b).fgw = s.fgw := by
  unfold State.post; dsimp only; split <;> rfl
@[simp] theorem post_evl (s : State) (k : NoticeKind) (x : Nat) (a b : Int) : (s.post k x a b).evl = s.evl := by
  unfold State.post; dsimp only; split <;> rfl
@[simp] theorem post_transit (s : State) (k : NoticeKind) (x : Nat) (a b : Int) : (s.post k x a b).transit = s.transit := by
  unfold State.post; dsimp only; split <;> rfl
@[simp] theorem post_pending (s : State) (k : NoticeKind) (x : Nat) (a b : Int) : (s.post k x a b).pending = s.pending := by
  unfold State.post; dsimp only; split <;> rfl
@[simp] theorem post_link_rx (s : State) (k : NoticeKind) (x : Nat) (a b : Int) : ((s.post k x a b).link).rx = s.link.rx := by
  unfold State.post; dsimp only; split <;> rfl
@[simp] theorem post_link_gap (s : State) (k : NoticeKind) (x : Nat) (a b : Int) : ((s.post k x a b).link).gap = s.link.gap := by
  unfold State.post; dsimp only; split <;> rfl
@[simp] theorem post_link_faults (s : State) (k : NoticeKind) (x : Nat) (a b : Int) : ((s.post k x a b).link).faults = s.link.faults := by
  unfold State.post; dsimp only; split <;> rfl
@[simp] theorem post_link_intake (s : State) (k : NoticeKind) (x : Nat) (a b : Int) : ((s.post k x a b).link).intake = s.link.intake := by
  unfold State.post; dsimp only; split <;> rfl
@[simp] theorem post_link_busyMark (s : State) (k : NoticeKind) (x : Nat) (a b : Int) : ((s.post k x a b).link).busyMark = s.link.busyMark := by
  unfold State.post; dsimp only; split <;> rfl
@[simp] theorem post_link_overrun (s : State) (k : NoticeKind) (x : Nat) (a b : Int) : ((s.post k x a b).link).overrun = s.link.overrun := by
  unfold State.post; dsimp only; split <;> rfl
@[simp] theorem post_link_dispatcher (s : State) (k : NoticeKind) (x : Nat) (a b : Int) : ((s.post k x a b).link).dispatcher = s.link.dispatcher := by
  unfold State.post; dsimp only; split <;> rfl
@[simp] theorem post_link_replies (s : State) (k : NoticeKind) (x : Nat) (a b : Int) : ((s.post k x a b).link).replies = s.link.replies := by
  unfold State.post; dsimp only; split <;> rfl
@[simp] theorem post_link_tx (s : State) (k : NoticeKind) (x : Nat) (a b : Int) : ((s.post k x a b).link).tx = s.link.tx := by
  unfold State.post; dsimp only; split <;> rfl
@[simp] theorem post_link_fastRate (s : State) (k : NoticeKind) (x : Nat) (a b : Int) : ((s.post k x a b).link).fastRate = s.link.fastRate := by
  unfold State.post; dsimp only; split <;> rfl

/-! ### A posting to the ice load table (R104) -/

@[simp] theorem postLoad_tick (s : State) (p : LoadPosting) : (s.postLoad p).tick = s.tick := rfl
@[simp] theorem postLoad_link (s : State) (p : LoadPosting) : (s.postLoad p).link = s.link := rfl
@[simp] theorem postLoad_ops (s : State) (p : LoadPosting) : (s.postLoad p).ops = s.ops := rfl
@[simp] theorem postLoad_prb (s : State) (p : LoadPosting) : (s.postLoad p).prb = s.prb := rfl
@[simp] theorem postLoad_cnd (s : State) (p : LoadPosting) : (s.postLoad p).cnd = s.cnd := rfl
@[simp] theorem postLoad_plt (s : State) (p : LoadPosting) : (s.postLoad p).plt = s.plt := rfl
@[simp] theorem postLoad_ilt (s : State) (p : LoadPosting) : (s.postLoad p).ilt = s.ilt := rfl
@[simp] theorem postLoad_hat (s : State) (p : LoadPosting) : (s.postLoad p).hat = s.hat := rfl
@[simp] theorem postLoad_sph (s : State) (p : LoadPosting) : (s.postLoad p).sph = s.sph := rfl
@[simp] theorem postLoad_fgw (s : State) (p : LoadPosting) : (s.postLoad p).fgw = s.fgw := rfl
@[simp] theorem postLoad_evl (s : State) (p : LoadPosting) : (s.postLoad p).evl = s.evl := rfl
@[simp] theorem postLoad_pending (s : State) (p : LoadPosting) : (s.postLoad p).pending = s.pending := rfl

/-! ### A posting to the heat allocation table (R113) -/

@[simp] theorem postHeat_tick (s : State) (p : HeatPosting) : (s.postHeat p).tick = s.tick := rfl
@[simp] theorem postHeat_link (s : State) (p : HeatPosting) : (s.postHeat p).link = s.link := rfl
@[simp] theorem postHeat_ops (s : State) (p : HeatPosting) : (s.postHeat p).ops = s.ops := rfl
@[simp] theorem postHeat_prb (s : State) (p : HeatPosting) : (s.postHeat p).prb = s.prb := rfl
@[simp] theorem postHeat_cnd (s : State) (p : HeatPosting) : (s.postHeat p).cnd = s.cnd := rfl
@[simp] theorem postHeat_plt (s : State) (p : HeatPosting) : (s.postHeat p).plt = s.plt := rfl
@[simp] theorem postHeat_ilt (s : State) (p : HeatPosting) : (s.postHeat p).ilt = s.ilt := rfl
@[simp] theorem postHeat_hat (s : State) (p : HeatPosting) : (s.postHeat p).hat = s.hat := rfl
@[simp] theorem postHeat_sph (s : State) (p : HeatPosting) : (s.postHeat p).sph = s.sph := rfl
@[simp] theorem postHeat_fgw (s : State) (p : HeatPosting) : (s.postHeat p).fgw = s.fgw := rfl
@[simp] theorem postHeat_evl (s : State) (p : HeatPosting) : (s.postHeat p).evl = s.evl := rfl
@[simp] theorem postHeat_pending (s : State) (p : HeatPosting) : (s.postHeat p).pending = s.pending := rfl

/-! ### A raise request (R86) -/

@[simp] theorem postRaise_tick (s : State) (p : Int) : (s.postRaise p).tick = s.tick := rfl
@[simp] theorem postRaise_link (s : State) (p : Int) : (s.postRaise p).link = s.link := rfl
@[simp] theorem postRaise_ops (s : State) (p : Int) : (s.postRaise p).ops = s.ops := rfl
@[simp] theorem postRaise_prb (s : State) (p : Int) : (s.postRaise p).prb = s.prb := rfl
@[simp] theorem postRaise_cnd (s : State) (p : Int) : (s.postRaise p).cnd = s.cnd := rfl
@[simp] theorem postRaise_plt (s : State) (p : Int) : (s.postRaise p).plt = s.plt := rfl
@[simp] theorem postRaise_ilt (s : State) (p : Int) : (s.postRaise p).ilt = s.ilt := rfl
@[simp] theorem postRaise_hat (s : State) (p : Int) : (s.postRaise p).hat = s.hat := rfl
@[simp] theorem postRaise_sph (s : State) (p : Int) : (s.postRaise p).sph = s.sph := rfl
@[simp] theorem postRaise_fgw (s : State) (p : Int) : (s.postRaise p).fgw = s.fgw := rfl
@[simp] theorem postRaise_evl (s : State) (p : Int) : (s.postRaise p).evl = s.evl := rfl
@[simp] theorem postRaise_pending (s : State) (p : Int) : (s.postRaise p).pending = s.pending := rfl

/-! ### A near-ice input (R131) -/

@[simp] theorem postCap_tick (s : State) (p : CapInput) : (s.postCap p).tick = s.tick := rfl
@[simp] theorem postCap_link (s : State) (p : CapInput) : (s.postCap p).link = s.link := rfl
@[simp] theorem postCap_ops (s : State) (p : CapInput) : (s.postCap p).ops = s.ops := rfl
@[simp] theorem postCap_prb (s : State) (p : CapInput) : (s.postCap p).prb = s.prb := rfl
@[simp] theorem postCap_cnd (s : State) (p : CapInput) : (s.postCap p).cnd = s.cnd := rfl
@[simp] theorem postCap_plt (s : State) (p : CapInput) : (s.postCap p).plt = s.plt := rfl
@[simp] theorem postCap_ilt (s : State) (p : CapInput) : (s.postCap p).ilt = s.ilt := rfl
@[simp] theorem postCap_hat (s : State) (p : CapInput) : (s.postCap p).hat = s.hat := rfl
@[simp] theorem postCap_sph (s : State) (p : CapInput) : (s.postCap p).sph = s.sph := rfl
@[simp] theorem postCap_fgw (s : State) (p : CapInput) : (s.postCap p).fgw = s.fgw := rfl
@[simp] theorem postCap_evl (s : State) (p : CapInput) : (s.postCap p).evl = s.evl := rfl
@[simp] theorem postCap_pending (s : State) (p : CapInput) : (s.postCap p).pending = s.pending := rfl

/-! ### A reply joining the reply path (R7) -/

@[simp] theorem pushReply_tick (s : State) (r : Reply) : (s.pushReply r).tick = s.tick := rfl
@[simp] theorem pushReply_ops (s : State) (r : Reply) : (s.pushReply r).ops = s.ops := rfl
@[simp] theorem pushReply_prb (s : State) (r : Reply) : (s.pushReply r).prb = s.prb := rfl
@[simp] theorem pushReply_cnd (s : State) (r : Reply) : (s.pushReply r).cnd = s.cnd := rfl
@[simp] theorem pushReply_plt (s : State) (r : Reply) : (s.pushReply r).plt = s.plt := rfl
@[simp] theorem pushReply_ilt (s : State) (r : Reply) : (s.pushReply r).ilt = s.ilt := rfl
@[simp] theorem pushReply_hat (s : State) (r : Reply) : (s.pushReply r).hat = s.hat := rfl
@[simp] theorem pushReply_sph (s : State) (r : Reply) : (s.pushReply r).sph = s.sph := rfl
@[simp] theorem pushReply_fgw (s : State) (r : Reply) : (s.pushReply r).fgw = s.fgw := rfl
@[simp] theorem pushReply_evl (s : State) (r : Reply) : (s.pushReply r).evl = s.evl := rfl
@[simp] theorem pushReply_transit (s : State) (r : Reply) : (s.pushReply r).transit = s.transit := rfl
@[simp] theorem pushReply_pending (s : State) (r : Reply) : (s.pushReply r).pending = s.pending := rfl

/-! ### The transmitter's start (R6, R10) -/

@[simp] theorem startTx_rx (l : Link) : l.startTx.rx = l.rx := by
  unfold Link.startTx; repeat' split
  all_goals rfl
@[simp] theorem startTx_gap (l : Link) : l.startTx.gap = l.gap := by
  unfold Link.startTx; repeat' split
  all_goals rfl
@[simp] theorem startTx_faults (l : Link) : l.startTx.faults = l.faults := by
  unfold Link.startTx; repeat' split
  all_goals rfl
@[simp] theorem startTx_intake (l : Link) : l.startTx.intake = l.intake := by
  unfold Link.startTx; repeat' split
  all_goals rfl
@[simp] theorem startTx_dispatcher (l : Link) : l.startTx.dispatcher = l.dispatcher := by
  unfold Link.startTx; repeat' split
  all_goals rfl
@[simp] theorem startTx_fastRate (l : Link) : l.startTx.fastRate = l.fastRate := by
  unfold Link.startTx; repeat' split
  all_goals rfl
@[simp] theorem startTx_notices (l : Link) : l.startTx.notices = l.notices := by
  unfold Link.startTx; repeat' split
  all_goals rfl
@[simp] theorem startTx_noticesLost (l : Link) : l.startTx.noticesLost = l.noticesLost := by
  unfold Link.startTx; repeat' split
  all_goals rfl

/-! ### The cells brought up to date (R61) -/

@[simp] theorem sync_tick (s : State) : (sync s).tick = s.tick := by unfold sync; rfl
@[simp] theorem sync_link (s : State) : (sync s).link = s.link := by unfold sync; rfl
@[simp] theorem sync_ops (s : State) : (sync s).ops = s.ops := by unfold sync; rfl
@[simp] theorem sync_prb (s : State) : (sync s).prb = s.prb := by unfold sync; rfl
@[simp] theorem sync_plt (s : State) : (sync s).plt = s.plt := by unfold sync; rfl
@[simp] theorem sync_ilt (s : State) : (sync s).ilt = s.ilt := by unfold sync; rfl
@[simp] theorem sync_hat (s : State) : (sync s).hat = s.hat := by unfold sync; rfl
@[simp] theorem sync_sph (s : State) : (sync s).sph = s.sph := by unfold sync; rfl
@[simp] theorem sync_fgw (s : State) : (sync s).fgw = s.fgw := by unfold sync; rfl
@[simp] theorem sync_evl (s : State) : (sync s).evl = s.evl := by unfold sync; rfl
@[simp] theorem sync_transit (s : State) : (sync s).transit = s.transit := by unfold sync; rfl
@[simp] theorem sync_pending (s : State) : (sync s).pending = s.pending := by unfold sync; rfl
@[simp] theorem sync_cnd_fi (s : State) : ((sync s).cnd).fi = s.cnd.fi := by unfold sync; rfl
@[simp] theorem sync_cnd_thresholds (s : State) : ((sync s).cnd).thresholds = s.cnd.thresholds := by unfold sync; rfl
@[simp] theorem sync_cnd_gates (s : State) : ((sync s).cnd).gates = s.cnd.gates := by unfold sync; rfl
@[simp] theorem sync_cnd_divider (s : State) : ((sync s).cnd).divider = s.cnd.divider := by unfold sync; rfl
@[simp] theorem sync_cnd_baseDue (s : State) : ((sync s).cnd).baseDue = s.cnd.baseDue := by unfold sync; rfl
@[simp] theorem sync_cnd_clocksTaken (s : State) : ((sync s).cnd).clocksTaken = s.cnd.clocksTaken := by
  unfold sync; rfl
@[simp] theorem sync_cnd_entryPhase (s : State) : ((sync s).cnd).entryPhase = s.cnd.entryPhase := by unfold sync; rfl
@[simp] theorem sync_cnd_exitPhase (s : State) : ((sync s).cnd).exitPhase = s.cnd.exitPhase := by unfold sync; rfl
@[simp] theorem sync_cnd_entryLevel (s : State) : ((sync s).cnd).entryLevel = s.cnd.entryLevel := by unfold sync; rfl
@[simp] theorem sync_cnd_exitLevel (s : State) : ((sync s).cnd).exitLevel = s.cnd.exitLevel := by unfold sync; rfl
@[simp] theorem sync_cnd_settings (s : State) : ((sync s).cnd).settings = s.cnd.settings := by unfold sync; rfl
@[simp] theorem sync_cnd_occupancy (s : State) : ((sync s).cnd).occupancy = s.cnd.occupancy := by unfold sync; rfl
@[simp] theorem sync_cnd_surge (s : State) : ((sync s).cnd).surge = s.cnd.surge := by unfold sync; rfl
@[simp] theorem sync_cnd_crowdSurge (s : State) : ((sync s).cnd).crowdSurge = s.cnd.crowdSurge := by unfold sync; rfl

/-! ### A probe group's record and a zone's record replaced -/

@[simp] theorem setGroup_tick (s : State) (g : Group) (f : GroupRec → GroupRec) : (setGroup s g f).tick = s.tick := rfl
@[simp] theorem setGroup_link (s : State) (g : Group) (f : GroupRec → GroupRec) : (setGroup s g f).link = s.link := rfl
@[simp] theorem setGroup_ops (s : State) (g : Group) (f : GroupRec → GroupRec) : (setGroup s g f).ops = s.ops := rfl
@[simp] theorem setGroup_cnd (s : State) (g : Group) (f : GroupRec → GroupRec) : (setGroup s g f).cnd = s.cnd := rfl
@[simp] theorem setGroup_plt (s : State) (g : Group) (f : GroupRec → GroupRec) : (setGroup s g f).plt = s.plt := rfl
@[simp] theorem setGroup_ilt (s : State) (g : Group) (f : GroupRec → GroupRec) : (setGroup s g f).ilt = s.ilt := rfl
@[simp] theorem setGroup_hat (s : State) (g : Group) (f : GroupRec → GroupRec) : (setGroup s g f).hat = s.hat := rfl
@[simp] theorem setGroup_sph (s : State) (g : Group) (f : GroupRec → GroupRec) : (setGroup s g f).sph = s.sph := rfl
@[simp] theorem setGroup_fgw (s : State) (g : Group) (f : GroupRec → GroupRec) : (setGroup s g f).fgw = s.fgw := rfl
@[simp] theorem setGroup_evl (s : State) (g : Group) (f : GroupRec → GroupRec) : (setGroup s g f).evl = s.evl := rfl
@[simp] theorem setGroup_transit (s : State) (g : Group) (f : GroupRec → GroupRec) : (setGroup s g f).transit = s.transit := rfl
@[simp] theorem setGroup_pending (s : State) (g : Group) (f : GroupRec → GroupRec) : (setGroup s g f).pending = s.pending := rfl
@[simp] theorem setZone_tick (s : State) (z : Fin 8) (f : Zone → Zone) : (setZone s z f).tick = s.tick := rfl
@[simp] theorem setZone_link (s : State) (z : Fin 8) (f : Zone → Zone) : (setZone s z f).link = s.link := rfl
@[simp] theorem setZone_ops (s : State) (z : Fin 8) (f : Zone → Zone) : (setZone s z f).ops = s.ops := rfl
@[simp] theorem setZone_prb (s : State) (z : Fin 8) (f : Zone → Zone) : (setZone s z f).prb = s.prb := rfl
@[simp] theorem setZone_cnd (s : State) (z : Fin 8) (f : Zone → Zone) : (setZone s z f).cnd = s.cnd := rfl
@[simp] theorem setZone_plt (s : State) (z : Fin 8) (f : Zone → Zone) : (setZone s z f).plt = s.plt := rfl
@[simp] theorem setZone_ilt (s : State) (z : Fin 8) (f : Zone → Zone) : (setZone s z f).ilt = s.ilt := rfl
@[simp] theorem setZone_hat (s : State) (z : Fin 8) (f : Zone → Zone) : (setZone s z f).hat = s.hat := rfl
@[simp] theorem setZone_fgw (s : State) (z : Fin 8) (f : Zone → Zone) : (setZone s z f).fgw = s.fgw := rfl
@[simp] theorem setZone_evl (s : State) (z : Fin 8) (f : Zone → Zone) : (setZone s z f).evl = s.evl := rfl
@[simp] theorem setZone_transit (s : State) (z : Fin 8) (f : Zone → Zone) : (setZone s z f).transit = s.transit := rfl
@[simp] theorem setZone_pending (s : State) (z : Fin 8) (f : Zone → Zone) : (setZone s z f).pending = s.pending := rfl

/-! ### A request taken from the intake (R7) -/

@[simp] theorem took_tick (s : State) : (took s).tick = s.tick := rfl
@[simp] theorem took_ops (s : State) : (took s).ops = s.ops := rfl
@[simp] theorem took_prb (s : State) : (took s).prb = s.prb := rfl
@[simp] theorem took_cnd (s : State) : (took s).cnd = s.cnd := rfl
@[simp] theorem took_plt (s : State) : (took s).plt = s.plt := rfl
@[simp] theorem took_ilt (s : State) : (took s).ilt = s.ilt := rfl
@[simp] theorem took_hat (s : State) : (took s).hat = s.hat := rfl
@[simp] theorem took_sph (s : State) : (took s).sph = s.sph := rfl
@[simp] theorem took_fgw (s : State) : (took s).fgw = s.fgw := rfl
@[simp] theorem took_evl (s : State) : (took s).evl = s.evl := rfl
@[simp] theorem took_transit (s : State) : (took s).transit = s.transit := rfl
@[simp] theorem took_pending (s : State) : (took s).pending = s.pending := rfl

/-! ### Tables of fixed size -/

@[simp] theorem upd_self {α : Type} {n : Nat} (v : Vector α n) (i : Fin n) (f : α → α) : (upd v i f)[i] = f v[i] := by
  simp [upd]

theorem upd_other {α : Type} {n : Nat} (v : Vector α n) (i j : Fin n) (f : α → α) (h : i ≠ j) :
    (upd v i f)[j] = v[j] := by
  have hij : i.val ≠ j.val := fun e => h (Fin.ext e)
  simp [upd, hij]

theorem upd_get {α : Type} {n : Nat} (v : Vector α n) (i j : Fin n) (f : α → α) :
    (upd v i f)[j] = if i = j then f v[j] else v[j] := by
  split
  · next h => subst h; exact upd_self v i f
  · next h => exact upd_other v i j f h

@[simp] theorem tabMap_get {α β : Type} {n : Nat} (f : α → β) (v : Vector α n) (i : Fin n) :
    (tabMap f v)[i] = f v[i] := by
  simp [tabMap]

@[simp] theorem ofFn_get {α : Type} {n : Nat} (f : Fin n → α) (i : Fin n) : (Vector.ofFn f)[i] = f i := by
  simp

/-! ### Timers (R1) -/

@[simp] theorem tickTimer_none : tickTimer none = none := rfl

@[simp] theorem tickTimer_some (n : Nat) : tickTimer (some n) = some (n - 1) := rfl

theorem dueTimer_iff (t : Timer) : dueTimer t = true ↔ t = some 0 := by simp [dueTimer]

theorem watchTimer_idle (load : Nat) (t : Timer) : watchTimer false load t = none := rfl

theorem watchTimer_load (load : Nat) : watchTimer true load none = some load := rfl

theorem watchTimer_runs (load n : Nat) : watchTimer true load (some n) = some n := rfl

end Sys2Proof.Machine
end

