-- ==== Sys2Proof/Laws/Ops.lean ====
section
/-! SUPPORT. What the shared operations can do: their frames, and what taking and answering a request gives. -/

namespace Sys2Proof.Machine

open Sys2Proof

/-! ### Frames of the shared operations -/

theorem post_frame (s : State) (k : NoticeKind) (x : Nat) (a b : Int) : Frame [.notices] s (s.post k x a b) := by
  intro p hp; cases p <;> first | exact absurd (by decide) hp | simp [agree]

theorem postLoad_frame (s : State) (p : LoadPosting) : Frame [.transit] s (s.postLoad p) := by
  intro p hp; cases p <;> first | exact absurd (by decide) hp | simp [agree]

theorem postHeat_frame (s : State) (p : HeatPosting) : Frame [.transit] s (s.postHeat p) := by
  intro p hp; cases p <;> first | exact absurd (by decide) hp | simp [agree]

theorem postRaise_frame (s : State) (r : Int) : Frame [.transit] s (s.postRaise r) := by
  intro p hp; cases p <;> first | exact absurd (by decide) hp | simp [agree]

theorem postCap_frame (s : State) (c : CapInput) : Frame [.transit] s (s.postCap c) := by
  intro p hp; cases p <;> first | exact absurd (by decide) hp | simp [agree]

theorem postPlant_frame (s : State) (u : PlantUpdate) : Frame [.transit] s (postPlant s u) := postLoad_frame s _

theorem sync_frame (s : State) : Frame [.cells] s (sync s) := by
  intro p hp; cases p <;> first | exact absurd (by decide) hp | simp [agree]

theorem setGroup_frame (s : State) (g : Group) (f : GroupRec → GroupRec) : Frame [.probes] s (setGroup s g f) := by
  intro p hp; cases p <;> first | exact absurd (by decide) hp | simp [agree]

theorem startTx_path (l : Link) (s : State) : Frame [.path] { s with link := l } { s with link := l.startTx } := by
  intro p hp; cases p <;> first | exact absurd (by decide) hp | simp [agree]

theorem pushReply_frame (s : State) (r : Reply) : Frame [.path] s (s.pushReply r) := by
  intro p hp; cases p <;> first | exact absurd (by decide) hp | simp [agree, State.pushReply]

theorem answer_frame (s : State) (r : Request) (a : Answer) : Frame [.path] s (answer s r a) := pushReply_frame s _

theorem took_frame (s : State) : Frame [.intake] s (took s) := by
  intro p hp; cases p <;> first | exact absurd (by decide) hp | simp [agree, took]

/-! ### The reply path -/

/-- The reply pushed last leaves TXD last (R10). -/
theorem lastReply_pushReply (s : State) (r : Reply) : lastReply (s.pushReply r).link = some r := by
  unfold State.pushReply lastReply Link.startTx
  dsimp only
  split
  · next x h =>
    rw [h, Option.toList_some, List.singleton_append, ← List.cons_append, List.getLast?_concat]
  · split
    · rw [Option.toList_some, List.singleton_append, ← List.cons_append, List.getLast?_concat]
    · split
      · next h => simp at h
      · next x rest h => simp [← h]

/-- A reply pushed joins the tail of the path, and an idle transmitter starts (R6, R7, R10). -/
theorem replied_pushReply (s : State) (r : Reply) : Replied s (s.pushReply r) r := by
  refine ⟨fun f h => ?_, fun tag h k => ?_, fun h k => ?_⟩ <;> simp only [State.pushReply, Link.startTx]
  · simp [h]
  · simp [h, k, busyReply]
  · cases s.link.replies <;> simp [h, k]

/-- What a reply's joining says depends on the path alone. -/
theorem Replied.of_path {s u t : State} {r : Reply} (h : Replied u t r) (e : agree .path s u) : Replied s t r := by
  obtain ⟨mark, lost, path, sent⟩ := e
  exact ⟨by rw [← sent, ← path, ← mark, ← lost]; exact h.sending, by rw [← sent, ← path, ← mark, ← lost]; exact h.marked,
    by rw [← sent, ← path, ← mark, ← lost]; exact h.idle⟩

/-! ### A request taken (R7, R8) -/

/-- A request that passes the screen goes to its owner. -/
theorem takeRequest_taken {row : Instr} {s : State} {r : Request} {items : List Item} (h : Taken row s r items)
    (owner : Request → List Item → State → State × Option Answer) :
    takeRequest row owner s =
      match owner r items (took s) with
      | (u, some a) => .next (answer u r a)
      | (u, none) => .next u := by
  obtain ⟨hd, hf, hk, hp⟩ := h
  unfold takeRequest
  split
  · next e => simp [e] at hd
  · next q rest e =>
    simp only [e, List.head?_cons, Option.some.injEq] at hd
    subst hd
    have ht : took s = { s with link.intake := rest } := by simp [took, e]
    rw [ht] at hp ⊢
    simp only [hf, hk, beq_self_eq_true, Bool.and_self, if_true, hp]
    all_goals (rcases owner q items _ with ⟨u, _ | a⟩ <;> rfl)

/-- A request that the screen refuses is answered, and nothing else happens. -/
theorem takeRequest_refused {row : Instr} {s : State} {r : Request} {a : Answer}
    (head : s.link.intake.head? = some r) (free : canTake s = true) (kind : requestRow r = row)
    (out : screen (took s) r = .refuse a) (owner : Request → List Item → State → State × Option Answer) :
    takeRequest row owner s = .next (answer (took s) r a) := by
  unfold takeRequest
  split
  · next e => simp [e] at head
  · next q rest e =>
    simp only [e, List.head?_cons, Option.some.injEq] at head
    subst head
    have ht : took s = { s with link.intake := rest } := by simp [took, e]
    rw [ht] at out ⊢
    simp only [free, kind, beq_self_eq_true, Bool.and_self, if_true, out]

/-- The dispatcher of a part that may take a request is free. -/
theorem dispatcher_of_canTake {s : State} (h : canTake s = true) : s.link.dispatcher = .free := by
  simp only [canTake, Bool.and_eq_true, beq_iff_eq] at h
  exact h.1

/-- An owner that answers at once and keeps the dispatcher free, the intake and the reply path: the request is
answered. -/
theorem takeRequest_owned {row : Instr} {s : State} {r : Request} {items : List Item} (h : Taken row s r items)
    {f : List Item → State → State × Answer}
    (hd : (f items (took s)).1.link.dispatcher = s.link.dispatcher)
    (hi : (f items (took s)).1.link.intake = (took s).link.intake) (hp : agree .path s (f items (took s)).1) :
    takeRequest row (owned f) s = .next ((f items (took s)).1.pushReply (replyTo r (f items (took s)).2))
    ∧ Answered s ((f items (took s)).1.pushReply (replyTo r (f items (took s)).2)) r (f items (took s)).2 := by
  have hfree := dispatcher_of_canTake h.free
  refine ⟨?_, ?_, (replied_pushReply _ _).of_path hp⟩
  · rw [takeRequest_taken h]
    simp only [owned, answer, replyTo, hd, hfree]
    rfl
  · have : ((f items (took s)).1.pushReply (replyTo r (f items (took s)).2)).link.intake
        = (f items (took s)).1.link.intake := by simp only [State.pushReply, startTx_intake]
    rw [this, hi]
    rfl

/-- A request row leaves what its owner leaves, apart from the intake and the reply path. -/
theorem takeRequest_frame {row : Instr} {owner : Request → List Item → State → State × Option Answer}
    {s t : State} {may : List Part} (h : ∀ r items u, Frame may u (owner r items u).1)
    (e : takeRequest row owner s = .next t) : Frame (requestParts ++ may) s t := by
  have hin : [Part.intake] ⊆ requestParts ++ may := by simp [requestParts]
  have hpath : [Part.path] ⊆ requestParts ++ may := by simp [requestParts]
  have hmay : may ⊆ requestParts ++ may := List.subset_append_right _ _
  unfold takeRequest at e
  split at e
  · cases e; exact Frame.refl _ _
  · next r rest hs =>
    split at e
    · have h1 : Frame (requestParts ++ may) s { s with link.intake := rest } := by
        have := (took_frame s).widen hin
        simpa [took, hs] using this
      dsimp only at e
      split at e
      · cases e; exact h1.trans ((answer_frame _ _ _).widen hpath)
      · next items _ =>
        have h2 := (h r items { s with link.intake := rest }).widen hmay
        split at e
        · next u a ho =>
          rw [ho] at h2
          cases e
          exact (h1.trans h2).trans ((answer_frame _ _ _).widen hpath)
        · next u ho =>
          rw [ho] at h2
          cases e
          exact h1.trans h2
    · cases e; exact Frame.refl _ _

/-- The same for an owner that answers at once. -/
theorem owned_frame {row : Instr} {f : List Item → State → State × Answer} {s t : State} {may : List Part}
    (h : ∀ items u, Frame may u (f items u).1) (e : takeRequest row (owned f) s = .next t) :
    Frame (requestParts ++ may) s t :=
  takeRequest_frame (fun _ items u => h items u) e

/-- A read leaves everything but the intake and the reply path. -/
theorem reads_frame {row : Instr} {f : List Item → State → List (Nat × List Byte)} {s t : State}
    (e : takeRequest row (reads f) s = .next t) : Frame requestParts s t := by
  have := takeRequest_frame (may := []) (fun r items u => Frame.refl [] u) e
  simpa using this

end Sys2Proof.Machine
end

