-- ==== Sys2Proof/Laws/Cells.lean ====
section
/-! SUPPORT. What bringing the cells up to date does, cell by cell (R61), and that doing it again changes nothing. -/

namespace Sys2Proof.Machine

open Sys2Proof

/-! ### One cell -/

/-- No evaluation touches a cell's settings or its tick view. -/
theorem evalCell_kept (clocked l0 l1 l2 : Bool) (c : Cell) :
    (evalCell clocked l0 l1 l2 c).1.config = c.config ∧ (evalCell clocked l0 l1 l2 c).1.tickView = c.tickView := by
  unfold evalCell evalTrigger delayClock delayEdge pulseClock pulseEdge rateClock rateEdge countClock
  repeat' first | split | dsimp only
  all_goals simp_all

/-- Without a clock event no terminal event is issued. -/
theorem evalCell_unclocked (l0 l1 l2 : Bool) (c : Cell) : (evalCell false l0 l1 l2 c).2 = false := by
  unfold evalCell evalTrigger
  split <;> rfl

/-- A trigger cell that has been evaluated has seen its trigger's level. -/
theorem evalTrigger_seen (clocked level : Bool) (clock : Cell → Cell × Bool) (edge : Cell → Cell) (c : Cell) :
    (evalTrigger clocked level clock edge c).1.seen0 = level := by
  by_cases h : (if clocked then clock c else (c, false)).1.seen0 = level <;> simp [evalTrigger, h]

/-- A trigger cell that has seen its trigger's level stands without a clock event. -/
theorem evalTrigger_still {level : Bool} {c : Cell} (h : c.seen0 = level) (clock : Cell → Cell × Bool)
    (edge : Cell → Cell) : evalTrigger false level clock edge c = (c, false) := by
  simp [evalTrigger, h]

/-- A cell that has been evaluated, and sees the same levels again, stands. -/
theorem evalCell_again (clocked l0 l1 l2 : Bool) (c : Cell) :
    evalCell false l0 l1 l2 (evalCell clocked l0 l1 l2 c).1 = ((evalCell clocked l0 l1 l2 c).1, false) := by
  have hk := (evalCell_kept clocked l0 l1 l2 c).1
  cases hc : c.config <;> rw [hc] at hk
  case none => simp [evalCell, hc]
  case table => simp [evalCell, hc]
  case count =>
    simp only [evalCell, hc] at hk ⊢
    rw [hk]
    simp
  all_goals
    rw [evalCell, hk]
    refine evalTrigger_still ?_ _ _
    simp only [evalCell, hc, evalTrigger_seen]

/-! ### The array -/

/-- The cells and the last terminal event after the first `n` evaluations of an event. -/
def evalFirst (s : State) (clocks : Fin 16 → Bool) (n : Nat) : Vector Cell 16 × Bool :=
  ((List.finRange 16).take n).foldl (evalAt s clocks) (s.cnd.cells, false)

theorem evalFirst_succ (s : State) (clocks : Fin 16 → Bool) (k : Fin 16) :
    evalFirst s clocks (k.val + 1) = evalAt s clocks (evalFirst s clocks k.val) k := by
  have h : (List.finRange 16).take (k.val + 1) = (List.finRange 16).take k.val ++ [k] := by
    rw [List.take_add_one]
    simp
  simp only [evalFirst, h, List.foldl_append, List.foldl_cons, List.foldl_nil]

theorem evalFirst_all (s : State) (clocks : Fin 16 → Bool) : (evalFirst s clocks 16).1 = evalCells s clocks := by
  simp only [evalFirst, evalCells]
  rw [List.take_of_length_le (by simp)]

theorem evalAt_other (s : State) (clocks : Fin 16 → Bool) (acc : Vector Cell 16 × Bool) {j k : Fin 16} (h : j ≠ k) :
    (evalAt s clocks acc k).1[j] = acc.1[j] := by
  have hv : k.val ≠ j.val := fun e => h (Fin.ext e.symm)
  simp [evalAt, hv]

/-- A cell not yet evaluated stands. -/
theorem evalFirst_before (s : State) (clocks : Fin 16 → Bool) {n : Nat} {j : Fin 16} (h : n ≤ j.val) :
    (evalFirst s clocks n).1[j] = s.cnd.cells[j] := by
  induction n with
  | zero => rfl
  | succ n ih =>
    have hn : n < 16 := by omega
    rw [evalFirst_succ s clocks ⟨n, hn⟩, evalAt_other _ _ _ (fun e => by rw [e] at h; exact absurd h (Nat.not_succ_le_self n)), ih (by omega)]

/-- A cell stays as its own evaluation left it. -/
theorem evalFirst_after (s : State) (clocks : Fin 16 → Bool) {n : Nat} {j : Fin 16} (h : j.val < n) (hn : n ≤ 16) :
    (evalFirst s clocks n).1[j] = (evalFirst s clocks (j.val + 1)).1[j] := by
  induction n with
  | zero => omega
  | succ n ih =>
    rcases Nat.lt_or_ge j.val n with hl | hl
    · rw [evalFirst_succ s clocks ⟨n, by omega⟩, evalAt_other _ _ _ (fun e => by rw [e] at hl; simp at hl),
        ih hl (by omega)]
    · have : n = j.val := by omega
      rw [this]

/-- No event touches the settings or the tick view of a cell. -/
theorem evalCells_kept (s : State) (clocks : Fin 16 → Bool) (k : Fin 16) :
    (evalCells s clocks)[k].config = s.cnd.cells[k].config
    ∧ (evalCells s clocks)[k].tickView = s.cnd.cells[k].tickView := by
  have h := evalCell_kept
  rw [← evalFirst_all, evalFirst_after s clocks k.isLt (Nat.le_refl _), evalFirst_succ]
  simp only [evalAt, Fin.getElem_fin, Vector.getElem_set_self]
  have e := evalFirst_before s clocks (Nat.le_refl k.val)
  simp only [Fin.getElem_fin] at e
  rw [(h _ _ _ _ _).1, (h _ _ _ _ _).2, e]
  exact ⟨rfl, rfl⟩

/-- The level a slot sees while a cell is evaluated is the one it sees at the end of the event: lower cells have their
final outputs, and no tick view changes (R61). -/
theorem viewLevel_evalFirst (s : State) (clocks : Fin 16 → Bool) (k : Fin 16) (source : Fin 45) :
    viewLevel s (evalFirst s clocks k.val).1 k source = viewLevel s (evalCells s clocks) k source := by
  unfold viewLevel
  dsimp only
  split
  · split
    · next hj => rw [← evalFirst_all, evalFirst_after s clocks hj (Nat.le_of_lt k.isLt),
        ← evalFirst_after s clocks (Nat.lt_trans hj k.isLt) (Nat.le_refl _)]
    · next hj => rw [evalFirst_before s clocks (Nat.le_of_not_lt hj), (evalCells_kept s clocks _).2]
  · rfl

/-- Each cell once, in ascending order (R61, R63). -/
theorem evalCells_broughtUpToDate (s : State) (clocks : Fin 16 → Bool) :
    BroughtUpToDate s clocks (evalCells s clocks) := by
  refine ⟨fun k => (evalFirst s clocks (k.val + 1)).2, fun k => ⟨fun clocked hc => ?_, evalCells_kept s clocks k⟩⟩
  have h1 : (evalCells s clocks)[k] = (evalFirst s clocks (k.val + 1)).1[k] := by
    rw [← evalFirst_all, evalFirst_after s clocks k.isLt (Nat.le_refl _)]
  have h2 : (clocks k || ((evalFirst s clocks k.val).2 && cellClock s.cnd.cells[k].config == some .chain)) = clocked := by
    rw [Bool.eq_iff_iff, hc]
    simp only [Bool.or_eq_true, Bool.and_eq_true, beq_iff_eq]
    refine or_congr Iff.rfl ⟨fun ⟨hi, hk⟩ => ⟨hk, ?_⟩, fun ⟨hk, j, hj, hi⟩ => ⟨?_, hk⟩⟩
    · rcases Nat.eq_zero_or_pos k.val with h0 | h0
      · rw [h0] at hi; exact absurd hi (by simp [evalFirst])
      · refine ⟨⟨k.val - 1, by omega⟩, Nat.sub_add_cancel h0, ?_⟩
        simpa only [Nat.sub_add_cancel h0] using hi
    · rw [← hj]; exact hi
  have h3 := evalFirst_before s clocks (Nat.le_refl k.val)
  rw [h1]
  dsimp only
  rw [evalFirst_succ]
  simp only [evalAt, Fin.getElem_fin, Vector.getElem_set_self]
  simp only [Fin.getElem_fin] at h3 h2
  simp only [h3, h2, viewLevel_evalFirst]

/-- In an event without a clock no cell issues a terminal event. -/
theorem evalFirst_unclocked (s : State) (n : Nat) : (evalFirst s (fun _ => false) n).2 = false := by
  induction n with
  | zero => rfl
  | succ n ih =>
    rcases Nat.lt_or_ge n 16 with hn | hn
    · rw [evalFirst_succ s _ ⟨n, hn⟩]
      simp only [evalAt, ih, Bool.false_and, Bool.or_false, evalCell_unclocked]
    · have : evalFirst s (fun _ => false) (n + 1) = evalFirst s (fun _ => false) n := by
        simp only [evalFirst]
        rw [List.take_of_length_le (by simp; omega), List.take_of_length_le (by simp; omega)]
      rw [this, ih]

/-- What the cells become depends, beside the cells, on the levels of the sources alone. -/
theorem evalCells_congr {s t : State} (cells : t.cnd.cells = s.cnd.cells)
    (sources : ∀ n, sourceLevel t n = sourceLevel s n) (clocks : Fin 16 → Bool) :
    evalCells t clocks = evalCells s clocks := by
  have hv : viewLevel t = viewLevel s := by funext c k n; simp only [viewLevel, sources]
  have he : evalAt t clocks = evalAt s clocks := by funext acc k; simp only [evalAt, hv]
  simp only [evalCells, he, cells]

/-- The cells are no source but in their own views. -/
theorem sourceLevel_cells (s : State) (cells : Vector Cell 16) (n : Nat) :
    sourceLevel { s with cnd.cells := cells } n = sourceLevel s n := rfl

/-- A second evaluation of a cell that has been brought up to date changes nothing (R61). -/
theorem evalCells_again (s : State) (clocks : Fin 16 → Bool) (k : Fin 16) :
    let cells := evalCells s clocks
    let slots := cellSlots s.cnd.cells[k].config
    evalCell false (viewLevel s cells k slots.1) (viewLevel s cells k slots.2.1) (viewLevel s cells k slots.2.2) cells[k]
      = (cells[k], false) := by
  intro cells slots
  obtain ⟨issued, h⟩ := evalCells_broughtUpToDate s clocks
  obtain ⟨clocked, hc⟩ : ∃ clocked : Bool, clocked = true ↔ clocks k = true
      ∨ (cellClock s.cnd.cells[k].config = some .chain ∧ ∃ j : Fin 16, j.val + 1 = k.val ∧ issued j = true) := by
    by_cases e : clocks k = true
        ∨ (cellClock s.cnd.cells[k].config = some .chain ∧ ∃ j : Fin 16, j.val + 1 = k.val ∧ issued j = true)
    · exact ⟨true, by simp only [e]⟩
    · exact ⟨false, by simp only [e, Bool.false_eq_true]⟩
  have e := congrArg Prod.fst ((h k).1 clocked hc)
  dsimp only at e
  have r := evalCell_again clocked (viewLevel s cells k slots.1) (viewLevel s cells k slots.2.1)
    (viewLevel s cells k slots.2.2) s.cnd.cells[k]
  rw [← e] at r
  exact r

/-- Cells brought up to date stay so (R61). -/
theorem sync_again (s : State) : sync (sync s) = sync s := by
  have h0 : (sync s).cnd.cells = evalCells s fun _ => false := by rw [sync]
  have hv : viewLevel (sync s) = viewLevel s := by
    funext c k m; simp only [viewLevel]; rw [sync, sourceLevel_cells]
  have hk : ∀ n, n ≤ 16 → (evalFirst (sync s) (fun _ => false) n).1 = evalCells s fun _ => false := by
    intro n
    induction n with
    | zero => intro _; simp only [evalFirst, List.take_zero, List.foldl_nil, h0]
    | succ n ih =>
      intro hn
      rw [evalFirst_succ (sync s) _ ⟨n, hn⟩]
      have e := evalCells_again s (fun _ => false) ⟨n, hn⟩
      have kept := (evalCells_kept s (fun _ => false) ⟨n, hn⟩).1
      simp only [Fin.getElem_fin] at e kept
      simp only [evalAt, ih (Nat.le_of_succ_le hn), evalFirst_unclocked, hv, Bool.false_and, Bool.or_false,
        Fin.getElem_fin, kept, e, Vector.set_getElem_self]
  have hc : evalCells (sync s) (fun _ => false) = evalCells s fun _ => false := by
    rw [← evalFirst_all]; exact hk 16 (Nat.le_refl _)
  have e : sync (sync s) = { sync s with cnd.cells := evalCells (sync s) fun _ => false } := rfl
  rw [e, hc, sync]

/-- An event that ends by bringing the cells up to date, and has not touched them before, lets them follow (R61). -/
theorem cellsFollow_sync {s u : State} (h : u.cnd.cells = s.cnd.cells) : CellsFollow s (sync u) := by
  have e : (sync u).cnd.cells = evalCells u fun _ => false := by rw [sync]
  have k : evalCells { sync u with cnd.cells := s.cnd.cells } (fun _ => false) = evalCells u fun _ => false := by
    apply evalCells_congr
    · simp only [h]
    · intro n; rw [sourceLevel_cells, sync, sourceLevel_cells]
  exact ⟨e.trans k.symm, sync_again u⟩

/-- What changes neither a cell nor a source leaves the cells as they follow. -/
theorem CellsFollow.of_sources {s t u : State} (h : CellsFollow s t) (cells : u.cnd.cells = t.cnd.cells)
    (sources : ∀ n, sourceLevel u n = sourceLevel t n) : CellsFollow s u := by
  refine ⟨?_, ?_⟩
  · have k : evalCells { u with cnd.cells := s.cnd.cells } (fun _ => false)
        = evalCells { t with cnd.cells := s.cnd.cells } fun _ => false := by
      apply evalCells_congr
      · simp only
      · intro n; rw [sourceLevel_cells, sources]; exact (sourceLevel_cells t s.cnd.cells n).symm
    exact cells.trans (h.1.trans k.symm)
  · have hc : evalCells u (fun _ => false) = u.cnd.cells := by
      rw [evalCells_congr cells sources, cells]
      have k := congrArg (fun x : State => x.cnd.cells) h.2
      simpa only [sync] using k
    rw [sync, hc]

end Sys2Proof.Machine
end

