-- ==== Sys2Proof/Laws/Due.lean ====
section
/-! SUPPORT. When an event of the present tick is still to be taken. -/

namespace Sys2Proof.Machine

open Sys2Proof

/-- Something holds of one of the places. -/
theorem anyOf_iff {n} (f : Fin n → Bool) : anyOf n f = true ↔ ∃ k, f k = true := by
  simp [anyOf, List.mem_finRange]

/-- A group has a record to become STALE (R44). -/
theorem staleDue_iff (s : State) (g : Group) : staleDue s g = true ↔
    ∃ k limit, effectiveStale s g = some limit ∧ (reading s g k).quality = .good ∧ limit < (reading s g k).age := by
  unfold staleDue overStale
  rw [anyOf_iff]
  constructor
  · rintro ⟨k, h⟩
    refine ⟨k, ?_⟩
    simp only [Bool.and_eq_true, beq_iff_eq] at h
    obtain ⟨a, b⟩ := h
    split at b
    · cases b
    · rename_i l hl; exact ⟨l, hl, a, by simpa using b⟩
  · rintro ⟨k, l, h1, h2, h3⟩
    exact ⟨k, by simp [h1, h2, h3]⟩

theorem mem_allGroups (g : Group) : g ∈ allGroups := by cases g <;> simp [allGroups]

/-- An event holds the next tick back exactly when it is one of those of `EventDue` (log 1). -/
theorem due_iff (s : State) : due s = true ↔ EventDue s := by
  have T : ∀ t : Timer, dueTimer t = true ↔ t = some 0 := by intro t; simp [dueTimer]
  constructor
  · intro h
    unfold due at h
    simp only [Bool.or_eq_true, List.any_eq_true, T] at h
    rcases h with (((((((((h|h)|h)|h)|h)|h)|h)|h)|h)|h)
    · unfold dueLink at h
      simp only [Bool.or_eq_true, Bool.and_eq_true, T] at h
      rcases h with (h|h)|h
      · exact .request h.1 (by have := h.2; intro e; rw [e] at this; cases this)
      · exact .gap h
      · split at h
        · rename_i tg rc lf hd; have e : lf = 0 := by simpa using h
          exact .store tg rc (e ▸ hd)
        · rename_i tg rc lf hd; have e : lf = 0 := by simpa using h
          exact .erase tg rc (e ▸ hd)
        · cases h
        · cases h
    · unfold dueOps at h
      simp only [Bool.or_eq_true, T] at h
      rcases h with (((((h|h)|h)|h)|h)|h)|h
      · exact .settle .plant h
      · exact .settle .fog h
      · exact .settle .heat h
      · exact .settle .light h
      · exact .mode (by simp [h])
      · exact .mode (by simp [h])
      · exact .mode (by simp [h])
    · obtain ⟨g, -, h⟩ := h
      simp only [dueGroup, Bool.or_eq_true, T, staleDue_iff] at h
      rcases h with (((h|h)|h)|h)|⟨k, l, a, b, c⟩
      · exact .group g (by grind)
      · exact .group g (by grind)
      · exact .group g (by grind)
      · exact .group g (by grind)
      · exact .stale g k l a b c
    · exact .base h
    · simp only [duePlt, Bool.or_eq_true, T, anyOf_iff] at h
      rcases h with ((((h|h)|h)|h)|h)|⟨n, h⟩
      · exact .surface (by simp [h])
      · exact .surface (by simp [h])
      · exact .surface (by simp [h])
      · exact .plant (by simp [h])
      · exact .plant (by simp [h])
      · exact .stage n (by grind)
    · exact .load h
    · simp only [dueSph, Bool.or_eq_true, T, anyOf_iff] at h
      obtain ⟨z, h|⟨n, h⟩⟩ := h
      · exact .preheat z h
      · exact .minimumOn z n h
    · exact .fog (by simpa [or_assoc] using h)
    · simp only [dueEvl, Bool.or_eq_true, T, anyOf_iff, List.any_eq_true] at h
      rcases h with (((((h|h)|h)|h)|⟨e, m, h⟩)|h)|⟨ch, h|h⟩
      · exact .lights (by simp [h])
      · exact .lights (by simp [h])
      · exact .lights (by simp [h])
      · exact .lights (by simp [h])
      · exact .posted e m (by simpa using h)
      · unfold deferDue at h; split at h
        · cases h
        · exact .deferred _ ‹_› (by simpa using h)
      · unfold Dimmer.fadeDone at h; split at h
        · cases h
        · exact .fade ch _ ‹_› (by simpa using h)
      · simp only [boundaryDue, Bool.and_eq_true, Bool.or_eq_true, bne_iff_ne] at h
        exact .period ch h.1 h.2
    · apply EventDue.transit; simpa [dueTransit, or_assoc] using h
  · intro h
    unfold due
    simp only [Bool.or_eq_true, List.any_eq_true, T]
    cases h with
    | group g h =>
      have : ∃ x, x ∈ allGroups ∧ dueGroup s x = true := ⟨g, mem_allGroups g, by simp [dueGroup, T, or_assoc]; grind⟩
      simp only [this, true_or, or_true]
    | stale g k l a b c =>
      have : ∃ x, x ∈ allGroups ∧ dueGroup s x = true :=
        ⟨g, mem_allGroups g, by simp [dueGroup, staleDue_iff]; grind⟩
      simp only [this, true_or, or_true]
    | request a b => simp [dueLink, a, b]
    | gap h => simp [dueLink, h, dueTimer]
    | store a b h => simp [dueLink, h]
    | erase a b h => simp [dueLink, h]
    | settle p h => cases p <;> simp_all [dueOps, slotOf, dueTimer]
    | mode h => simp [dueOps, T]; grind
    | base h => simp [h]
    | surface h => simp [duePlt, T]; grind
    | plant h => simp [duePlt, T]; grind
    | stage n h => simp [duePlt, T, anyOf_iff]; grind
    | load h => grind
    | preheat z h => simp [dueSph, T, anyOf_iff]; grind
    | minimumOn z n h => simp [dueSph, T, anyOf_iff]; grind
    | fog h => grind
    | lights h => simp [dueEvl, T]; grind
    | posted e m h => simp [dueEvl, T]; grind
    | deferred d h n => simp [dueEvl, deferDue, h, n]
    | fade ch f h o => simp [dueEvl, Dimmer.fadeDone, anyOf_iff]; grind
    | period ch a h => simp [dueEvl, boundaryDue, anyOf_iff]; grind
    | transit h => simp [dueTransit]; grind

end Sys2Proof.Machine
end

