-- ==== Sys2Proof/Laws/Fog.lean ====
section
/-! SUPPORT. The frames of the fog watch's operations. -/

namespace Sys2Proof.Machine

open Sys2Proof

/-- What a judgement of the fog watch that changes no level touches. -/
def fogOwn : List Part := [.fog, .transit]

theorem formSpreads_frame (s : State) : Frame fogOwn s (formSpreads s) := by
  intro p hp; cases p <;> first | exact absurd (by decide) hp | simp [agree, formSpreads]

theorem judgeDwell_frame (s : State) : Frame fogOwn s (judgeDwell s) := by
  intro p hp; cases p <;> first | exact absurd (by decide) hp | simp [agree, judgeDwell]

theorem judgeBlind_frame (b : Bool) (s : State) : Frame fogOwn s (judgeBlind b s) := by
  intro p hp; cases p <;> first | exact absurd (by decide) hp | simp [agree, judgeBlind]

theorem judgeWeak_frame (s : State) : Frame fogOwn s (judgeWeak s) := by
  intro p hp; cases p <;> first | exact absurd (by decide) hp | simp [agree, judgeWeak]

theorem judgeStarve_frame (s : State) : Frame fogOwn s (judgeStarve s) := by
  unfold judgeStarve
  intro p hp; cases p <;> first | exact absurd (by decide) hp | (simp only [agree]; split <;> simp)

theorem setLevel_frame (s : State) (dest : FogLevel) : Frame fogParts s (setLevel s dest) := by
  unfold setLevel
  extract_lets left s1
  have h1 : Frame fogParts s s1 := (post_frame s _ _ _ _).widen (by decide)
  have h2 : Frame fogParts s1 { s1 with fgw.level := dest, fgw.haze := !foggy dest } := by
    intro p hp; cases p <;> first | exact absurd (by decide) hp | simp [agree]
  exact h1.trans (h2.trans (((judgeDwell_frame _).widen (by decide)).trans ((judgeStarve_frame _).widen (by decide))))

theorem judgeWorse_frame (s : State) : Frame fogParts s (judgeWorse s) := by
  unfold judgeWorse
  exact Frame.ite (fun _ => setLevel_frame s _) fun _ => Frame.refl _ _

theorem postDesiccant_frame (always : Bool) (s : State) : Frame fogOwn s (postDesiccant always s) := by
  unfold postDesiccant
  refine Frame.ite (fun _ => ?_) fun _ => Frame.refl _ _
  intro p hp; cases p <;> first | exact absurd (by decide) hp | simp [agree]

theorem postRaiseOutput_frame (always : Bool) (s : State) : Frame fogOwn s (postRaiseOutput always s) := by
  unfold postRaiseOutput
  refine Frame.ite (fun _ => ?_) fun _ => Frame.refl _ _
  intro p hp; cases p <;> first | exact absurd (by decide) hp | simp [agree]

theorem postZoneCap_frame (always : Bool) (s : State) : Frame fogOwn s (postZoneCap always s) := by
  unfold postZoneCap
  refine Frame.ite (fun _ => ?_) fun _ => Frame.refl _ _
  intro p hp; cases p <;> first | exact absurd (by decide) hp | simp [agree]

theorem postSecondary_frame (always : Bool) (s : State) : Frame fogOwn s (postSecondary always s) := by
  unfold postSecondary
  refine Frame.ite (fun _ => ?_) fun _ => Frame.refl _ _
  intro p hp; cases p <;> first | exact absurd (by decide) hp | simp [agree]

theorem formOutputs_frame (always : Bool) (s : State) : Frame fogOwn s (formOutputs always s) := by
  unfold formOutputs
  extract_lets u s1
  have h1 : Frame fogOwn s s1 := by
    intro p hp; cases p <;> first | exact absurd (by decide) hp | simp [agree, s1, u]
  exact h1.trans ((postDesiccant_frame always s1).trans ((postRaiseOutput_frame always _).trans
    ((postZoneCap_frame always _).trans (postSecondary_frame always _))))

theorem formOutputs_frame' (always : Bool) (s : State) : Frame fogParts s (formOutputs always s) :=
  (formOutputs_frame always s).widen (by decide)

theorem groupBUpdate_frame (s : State) : Frame fogParts s (groupBUpdate s) :=
  ((formSpreads_frame s).widen (by decide)).trans (((judgeBlind_frame _ _).widen (by decide)).trans
    ((judgeWorse_frame _).trans ((judgeDwell_frame _).widen (by decide))))

theorem groupEUpdate_frame (s : State) : Frame fogParts s (groupEUpdate s) := by
  have h : Frame fogParts s (judgeWeak s) := (judgeWeak_frame s).widen (by decide)
  exact Frame.ite (fun _ => h) fun _ => h.trans ((judgeStarve_frame _).widen (by decide))

theorem fogJudgements_frame (b e : Bool) (s : State) : Frame fogParts s (fogJudgements b e s) := by
  unfold fogJudgements
  refine Frame.ite (fun _ => ?_) fun _ => Frame.refl _ _
  extract_lets s1
  have h1 : Frame fogParts s s1 := Frame.ite (fun _ => groupBUpdate_frame s) fun _ => Frame.refl _ _
  exact h1.trans (Frame.ite (fun _ => groupEUpdate_frame s1) fun _ => Frame.refl _ _)

theorem fogUpdate_frame (b e : Bool) (s : State) : Frame fogParts s (fogUpdate b e s) :=
  Frame.ite (fun _ => (fogJudgements_frame b e s).trans (formOutputs_frame' _ _)) fun _ => Frame.refl _ _

theorem fogGatesDone_frame (changed : Bool) (s : State) : Frame fogParts s (fogGatesDone changed s) :=
  Frame.ite (fun _ => formOutputs_frame' _ _) fun _ => Frame.refl _ _

theorem fogSeenGate_frame (s : State) (level : Bool) : Frame fogParts s (fogSeenGate s level) := by
  unfold fogSeenGate
  extract_lets u s1
  have h1 : Frame fogParts s s1 := by
    intro p hp; cases p <;> first | exact absurd (by decide) hp | simp [agree, s1, u]
  exact Frame.ite (fun _ => h1.trans ((judgeWorse_frame _).trans ((judgeDwell_frame _).widen (by decide)))) fun _ => h1

theorem doorOpenGate_frame (s : State) (level : Bool) : Frame fogParts s (doorOpenGate s level) := by
  intro p hp; cases p <;> first | exact absurd (by decide) hp | simp [agree, doorOpenGate]

theorem fogSettled_frame (s : State) : Frame fogParts s (fogSettled s) := by
  unfold fogSettled
  exact (judgeWorse_frame s).trans (((judgeDwell_frame _).widen (by decide)).trans
    (((judgeWeak_frame _).widen (by decide)).trans (((judgeStarve_frame _).widen (by decide)).trans
    (formOutputs_frame' _ _))))

theorem fogEnterRun_frame (s : State) : Frame fogParts s (fogEnterRun s) := by
  unfold fogEnterRun
  exact ((formSpreads_frame s).widen (by decide)).trans (((judgeBlind_frame _ _).widen (by decide)).trans
    ((judgeWorse_frame _).trans (((judgeDwell_frame _).widen (by decide)).trans
    (((judgeWeak_frame _).widen (by decide)).trans (((judgeStarve_frame _).widen (by decide)).trans
    (formOutputs_frame' _ _))))))

theorem takeDesiccant_frame (s : State) (grant : Nat) (row : RowState) : Frame fogOwn s (takeDesiccant s grant row) := by
  unfold takeDesiccant
  have h : Frame fogOwn s { s with fgw.grant := grant, fgw.row := row } := by
    intro p hp; cases p <;> first | exact absurd (by decide) hp | simp [agree]
  exact h.trans ((judgeWeak_frame _).trans ((judgeStarve_frame _).trans (formOutputs_frame _ _)))

end Sys2Proof.Machine
end

