-- ==== Sys2Proof/Laws/Lighting.lean ====
section
/-! SUPPORT. The frames of event lighting's operations. -/

namespace Sys2Proof.Machine

open Sys2Proof

theorem setLightLoad_frame (s : State) (n : Nat) : Frame playParts s (setLightLoad s n) := by
  unfold setLightLoad
  refine Frame.ite (fun _ => Frame.refl _ _) fun _ => ?_
  intro p hp; cases p <;> first | exact absurd (by decide) hp | simp [agree]

theorem dropCue_frame (s : State) (list number : Nat) (cause : DropCause) :
    Frame [.notices] s (dropCue s list number cause) := post_frame s _ _ _ _

theorem dropDeferred_frame (s : State) (cause : DropCause) :
    Frame [.waiting, .notices] s (dropDeferred s cause) := by
  unfold dropDeferred
  split
  · exact Frame.refl _ _
  · have h : Frame [.waiting, .notices] s { s with evl.deferred := none } := by
      intro p hp; cases p <;> first | exact absurd (by decide) hp | simp [agree]
    exact h.trans ((dropCue_frame _ _ _ _).widen (by decide))

theorem fadeEnded_frame (s : State) : Frame playParts s (fadeEnded s).1 := by
  unfold fadeEnded
  extract_lets u s1
  have h1 : Frame playParts s s1 := by
    intro p hp; cases p <;> first | exact absurd (by decide) hp | simp [agree, s1, u]
  split
  · exact h1
  · next r _ =>
    extract_lets s2
    have h2 : Frame playParts s s2 := h1.trans (setLightLoad_frame s1 _)
    split
    · exact h2
    · next follow _ =>
      have h3 : Frame playParts s2 { s2 with evl.follow := some follow } := by
        intro p hp; cases p <;> first | exact absurd (by decide) hp | simp [agree]
      split
      · exact h2
      · split
        · exact h2
        · exact h2.trans h3

theorem startCue_frame (s : State) (c : CueRecord) (f load : Nat) : Frame playParts s (startCue s c f load).1 := by
  unfold startCue
  extract_lets s1 u1 s2 s3 recent u2 s4 u3
  have h1 : Frame playParts s s1 :=
    Frame.ite (fun _ => (dropDeferred_frame s _).widen (by decide)) fun _ => Frame.refl _ _
  have h2 : Frame playParts s1 s2 := by
    intro p hp; cases p <;> first | exact absurd (by decide) hp | simp [agree, s2, u1]
  have h3 : Frame playParts s2 s3 := setLightLoad_frame s2 _
  have h4 : Frame playParts s3 s4 := by
    intro p hp; cases p <;> first | exact absurd (by decide) hp | simp [agree, s4, u2]
  have h5 : Frame playParts s4 { s4 with evl.fadeEnd := some c.fade } := by
    intro p hp; cases p <;> first | exact absurd (by decide) hp | simp [agree]
  split
  · exact h1.trans (h2.trans (h3.trans (h4.trans (fadeEnded_frame s4))))
  · exact h1.trans (h2.trans (h3.trans (h4.trans h5)))

theorem deferCue_frame (s : State) (c : CueRecord) : Frame playParts s (deferCue s c) := by
  unfold deferCue
  extract_lets s1 slot u
  have h1 : Frame playParts s s1 := (dropDeferred_frame s _).widen (by decide)
  refine h1.trans ?_
  intro p hp; cases p <;> first | exact absurd (by decide) hp | simp [agree, u]

theorem admitCue_frame (s : State) (c : CueRecord) (quiet : Bool) : Frame playParts s (admitCue s c quiet).1.1 := by
  unfold admitCue
  extract_lets v f load r t
  split
  · exact startCue_frame s c _ _
  · split
    · exact startCue_frame s c _ _
    · exact (startCue_frame s c f load).trans ((post_frame _ _ _ _ _).widen (by decide))
    · exact (deferCue_frame s c).trans
        (Frame.ite (fun _ => Frame.refl _ _) fun _ => (post_frame t _ _ _ _).widen (by decide))

theorem postCue_frame (s : State) (c : CueRecord) (post : Nat) : Frame playParts s (postCue s c post) := by
  intro p hp; cases p <;> first | exact absurd (by decide) hp | simp [agree, postCue]

theorem followNext_frame (s : State) : Frame playParts s (followNext s).1 := by
  unfold followNext
  split
  · exact Frame.refl _ _
  · next c _ =>
    split
    · exact admitCue_frame s c false
    · split
      · exact (dropCue_frame s _ _ _).widen (by decide)
      · exact postCue_frame s c _

theorem playOn_frame : ∀ (k : Nat) (r : State × Bool), Frame playParts r.1 (playOn k r)
  | 0, r => Frame.refl _ _
  | k + 1, r => by
    unfold playOn
    exact Frame.ite (fun _ => (followNext_frame r.1).trans (playOn_frame k _)) fun _ => Frame.refl _ _

theorem settlePlay_frame (r : State × Bool) : Frame playParts r.1 (settlePlay r) := playOn_frame 65 r

theorem playDue_frame : ∀ (k : Nat) (s : State), Frame playParts s (playDue k s)
  | 0, s => Frame.refl _ _
  | k + 1, s => by
    unfold playDue
    split
    · exact Frame.refl _ _
    · next e rest _ =>
      split
      · have h : Frame playParts s { s with evl.posted := rest } := by
          intro p hp; cases p <;> first | exact absurd (by decide) hp | simp [agree]
        dsimp only
        split
        · exact h.trans (playDue_frame k _)
        · next c _ =>
          exact h.trans ((admitCue_frame _ c false).trans ((settlePlay_frame _).trans (playDue_frame k _)))
      · exact Frame.refl _ _

theorem releaseEnd_frame (s : State) : Frame [.playback, .transit] s (releaseEnd s) := by
  unfold releaseEnd setLightLoad
  split
  all_goals intro p hp; cases p <;> first | exact absurd (by decide) hp | simp [agree]

theorem dropPosted_frame (s : State) (entries : List PostedCue) (cause : DropCause) :
    Frame [.notices] s (dropPosted s entries cause) := Frame.foldl _ (fun s _ => dropCue_frame s _ _ _) _ _

theorem releaseAll_frame (s : State) (time : Nat) : Frame playParts s (releaseAll s time) := by
  unfold releaseAll
  extract_lets u0 s1 u s2
  have h0 : Frame playParts s { s with evl.posted := [] } := by
    intro p hp; cases p <;> first | exact absurd (by decide) hp | simp [agree]
  have h1 : Frame playParts s s1 :=
    h0.trans (((dropPosted_frame _ _ _).widen (by decide)).trans ((dropDeferred_frame _ _).widen (by decide)))
  have h2 : Frame playParts s1 s2 := by
    intro p hp; cases p <;> first | exact absurd (by decide) hp | simp [agree, s2, u]
  exact Frame.ite (fun _ => h1.trans (h2.trans ((releaseEnd_frame s2).widen (by decide)))) fun _ => h1.trans h2

theorem retentionPurge_frame (s : State) : Frame [.memory, .notices] s (retentionPurge s) := by
  unfold retentionPurge
  extract_lets limit gone u s1
  have h1 : Frame [.memory, .notices] s s1 := by
    intro p hp; cases p <;> first | exact absurd (by decide) hp | simp [agree, s1, u]
  exact h1.trans ((post_frame s1 _ _ _ _).widen (by decide))

theorem nightLightingOff_frame (s : State) : Frame [.dimmers, .effects, .playback] s (nightLightingOff s) := by
  intro p hp; cases p <;> first | exact absurd (by decide) hp | simp [agree, nightLightingOff]

theorem fallbackStart_frame (s : State) : Frame playParts s (fallbackStart s).1 := by
  unfold fallbackStart
  split
  · exact Frame.refl _ _
  · next c _ =>
    have h : Frame playParts s (dropDeferred s .displaced) := (dropDeferred_frame s _).widen (by decide)
    exact h.trans ((startCue_frame (dropDeferred s .displaced) c 1000 c.load).trans (settlePlay_frame _))

theorem askFallback_frame (s : State) : Frame playParts s (askFallback s) :=
  (fallbackStart_frame s).trans ((post_frame _ _ _ _ _).widen (by decide))

theorem retryDeferred_frame (s : State) : Frame playParts s (retryDeferred s) := by
  unfold retryDeferred
  split
  · exact Frame.refl _ _
  · next d _ =>
    split
    · exact Frame.refl _ _
    · next c _ =>
      split
      · extract_lets u s1
        have h1 : Frame playParts s s1 := by
          intro p hp; cases p <;> first | exact absurd (by decide) hp | simp [agree, s1, u]
        exact h1.trans (((post_frame s1 _ _ _ _).widen (by decide)).trans
          ((startCue_frame _ c _ _).trans (settlePlay_frame _)))
      · exact Frame.refl _ _

theorem writeDone_frame (s : State) (tag kind : Byte) (items : List (Nat × List Byte)) :
    Frame [.path, .dispatcher] s (writeDone s tag kind items) := by
  intro p hp; cases p <;> first | exact absurd (by decide) hp | simp [agree, writeDone, State.pushReply]

theorem leaveList_frame (s : State) (list : Nat) : Frame [.playback] s (leaveList s list) := by
  unfold leaveList
  split
  · exact Frame.refl _ _
  · refine Frame.ite (fun _ => ?_) fun _ => Frame.refl _ _
    intro p hp; cases p <;> first | exact absurd (by decide) hp | simp [agree]

theorem completeStore_frame (s : State) (tag : Byte) (c : CueRecord) :
    Frame [.path, .dispatcher, .memory] s (completeStore s tag c) := by
  unfold completeStore
  extract_lets replaced memory
  have h1 : Frame [.path, .dispatcher, .memory] s { s with evl.memory := memory } := by
    intro p hp; cases p <;> first | exact absurd (by decide) hp | simp [agree]
  exact h1.trans ((writeDone_frame _ _ _ _).widen (by decide))

theorem completeErase_frame (s : State) (tag : Byte) (list : Nat) :
    Frame [.path, .dispatcher, .memory, .waiting, .playback, .notices] s (completeErase s tag list) := by
  unfold completeErase
  extract_lets erased dropped deferred u s1 s2 s3
  have h1 : Frame [.path, .dispatcher, .memory, .waiting, .playback, .notices] s s1 := by
    intro p hp; cases p <;> first | exact absurd (by decide) hp | simp [agree, s1, u]
  have h2 : Frame [.path, .dispatcher, .memory, .waiting, .playback, .notices] s1 s2 :=
    (dropPosted_frame s1 _ _).widen (by decide)
  have h3 : Frame [.path, .dispatcher, .memory, .waiting, .playback, .notices] s2 s3 :=
    Frame.ite (fun _ => (dropDeferred_frame s2 _).widen (by decide)) fun _ => Frame.refl _ _
  exact h1.trans (h2.trans (h3.trans (((leaveList_frame s3 list).widen (by decide)).trans
    ((writeDone_frame _ _ _ _).widen (by decide)))))

theorem goNamed_frame (named : Option CueRecord) (items : List Item) (s : State) :
    Frame playParts s (goNamed named items s).1 := by
  unfold goNamed
  split
  · exact Frame.refl _ _
  · split
    · exact Frame.refl _ _
    · next c =>
      unfold goCue
      split
      · exact (admitCue_frame s c true).trans (settlePlay_frame _)
      · split
        · exact Frame.refl _ _
        · exact postCue_frame s c _

end Sys2Proof.Machine
end

