-- ==== Sys2Proof/Laws/Plant.lean ====
section
/-! SUPPORT. The frames of the plant coordinator's operations: stages, ice states, group updates, entry to RUN. -/

namespace Sys2Proof.Machine

open Sys2Proof

/-! ### Stages -/

theorem recomputeSupply_frame (s : State) : Frame stageParts s (recomputeSupply s) := by
  unfold recomputeSupply
  refine Frame.ite (fun _ => Frame.refl _ _) fun _ => ?_
  intro p hp; cases p <;> first | exact absurd (by decide) hp | simp [agree]

theorem stageChange_frame (s : State) (n : Fin 6) (dest : StageState) (cause : LockCause) :
    Frame stageParts s (stageChange s n dest cause) := by
  unfold stageChange
  extract_lets left u1 s1 s2 u2 s3
  have h1 : Frame stageParts s s1 := by
    intro p hp; cases p <;> first | exact absurd (by decide) hp | simp [agree, s1, u1]
  have h2 : Frame stageParts s1 s2 := Frame.ite (fun _ => recomputeSupply_frame s1) fun _ => Frame.refl _ _
  have h3 : Frame stageParts s2 s3 :=
    Frame.ite (fun _ => (postPlant_frame s2 _).widen (by decide)) fun _ => Frame.refl _ _
  exact (h1.trans (h2.trans h3)).trans
    (Frame.ite (fun _ => (post_frame s3 _ _ _ _).widen (by decide)) fun _ => Frame.refl _ _)

theorem decideOnce_frame {s t : State} (e : decideOnce s = some t) : Frame stageParts s t := by
  unfold decideOnce at e
  split at e
  · obtain ⟨n, _, rfl⟩ := Option.map_eq_some_iff.mp e
    exact stageChange_frame s n _ _
  · split at e
    · cases e
    · next n _ =>
      split at e
      · cases e; exact stageChange_frame s n _ _
      · cases e

theorem decideRepeat_frame : ∀ (k : Nat) (s : State), Frame stageParts s (decideRepeat k s)
  | 0, s => Frame.refl _ s
  | k + 1, s => by
    unfold decideRepeat
    split
    · exact Frame.refl _ s
    · next t e => exact (decideOnce_frame e).trans (decideRepeat_frame k t)

theorem stageDecision_frame (s : State) : Frame stageParts s (stageDecision s) :=
  Frame.ite (fun _ => decideRepeat_frame 8 s) fun _ => Frame.refl _ _

/-! ### The surface -/

theorem judgeRaise_frame (s : State) : Frame [.surface] s (judgeRaise s) := by
  unfold judgeRaise driveBrine
  intro p hp; cases p <;> first | exact absurd (by decide) hp | (simp only [agree]; split <;> simp)

theorem judgeSoftWatch_frame (s : State) : Frame [.surface] s (judgeSoftWatch s) := by
  intro p hp; cases p <;> first | exact absurd (by decide) hp | simp [agree, judgeSoftWatch]

theorem judgeSoftClear_frame (s : State) : Frame [.surface] s (judgeSoftClear s) := by
  intro p hp; cases p <;> first | exact absurd (by decide) hp | simp [agree, judgeSoftClear]

theorem judgeDerate_frame (s : State) : Frame [.heatSide] s (judgeDerate s) := by
  unfold judgeDerate
  intro p hp; cases p <;> first | exact absurd (by decide) hp | (simp only [agree]; split <;> simp)

theorem judgeHeatSide_frame (s : State) : Frame [.heatSide, .stages, .transit] s (judgeHeatSide s) := by
  unfold judgeHeatSide
  extract_lets s1 supply demand newSupply newDemand u1 s2
  have h1 : Frame [.heatSide, .stages, .transit] s s1 := (judgeDerate_frame s).widen (by decide)
  have h2 : Frame [.heatSide, .stages, .transit] s1 s2 := by
    intro p hp; cases p <;> first | exact absurd (by decide) hp | simp [agree, s2, u1]
  exact (h1.trans h2).trans
    (Frame.ite (fun _ => (postHeat_frame s2 _).widen (by decide)) fun _ => Frame.refl _ _)

/-! ### Ice states and group updates -/

theorem changeIce_frame (s : State) (dest : IceState) (prior : Option IceMode) :
    Frame iceParts s (changeIce s dest prior) := by
  unfold changeIce
  extract_lets left u1 s1 s2 u2 s3 s4 s5
  have h1 : Frame iceParts s s1 := by
    intro p hp; cases p <;> first | exact absurd (by decide) hp | simp [agree, s1, u1]
  have h2 : Frame iceParts s1 s2 := (judgeRaise_frame s1).widen (by decide)
  have h3 : Frame iceParts s2 s3 := (postPlant_frame s2 _).widen (by decide)
  have h4 : Frame iceParts s3 s4 :=
    Frame.ite (fun _ => (postCap_frame s3 _).widen (by decide)) fun _ => Frame.refl _ _
  have h5 : Frame iceParts s4 s5 :=
    ((judgeSoftWatch_frame s4).widen (by decide)).trans
      (((judgeSoftClear_frame _).widen (by decide)).trans ((stageDecision_frame _).widen (by decide)))
  exact h1.trans (h2.trans (h3.trans (h4.trans (h5.trans ((post_frame s5 _ _ _ _).widen (by decide))))))

theorem returnIce_frame (s : State) : Frame iceParts s (returnIce s) := changeIce_frame s _ _

theorem resurfaceGate_frame (s : State) (level : Bool) : Frame iceParts s (resurfaceGate s level) := by
  unfold resurfaceGate
  repeat' split
  all_goals first | exact Frame.refl _ _ | exact changeIce_frame s _ _

theorem groupAUpdate_frame (s : State) : Frame iceParts s (groupAUpdate s) := by
  unfold groupAUpdate
  refine Frame.ite (fun _ => Frame.refl _ _) fun _ => ?_
  extract_lets before u1 s1 s2
  have h1 : Frame iceParts s s1 := by
    intro p hp; cases p <;> first | exact absurd (by decide) hp | simp [agree, s1, u1]
  refine Frame.ite (fun _ => h1.trans (returnIce_frame s1)) fun _ => ?_
  have h2 : Frame iceParts s1 s2 :=
    ((judgeSoftWatch_frame s1).widen (by decide)).trans ((judgeSoftClear_frame _).widen (by decide))
  exact Frame.ite (fun _ => h1.trans h2) fun _ => h1.trans (h2.trans ((stageDecision_frame s2).widen (by decide)))

theorem groupCUpdate_frame (s : State) : Frame [.heatSide, .stages, .transit] s (groupCUpdate s) :=
  Frame.ite (fun _ => judgeHeatSide_frame s) fun _ => Frame.refl _ _

theorem plantUpdate_frame (a c : Bool) (s : State) : Frame (.heatSide :: iceParts) s (plantUpdate a c s) := by
  unfold plantUpdate
  extract_lets s1
  have h1 : Frame (.heatSide :: iceParts) s s1 :=
    Frame.ite (fun _ => (groupAUpdate_frame s).widen (by decide)) fun _ => Frame.refl _ _
  exact Frame.ite (fun _ => h1.trans ((groupCUpdate_frame s1).widen (by decide))) fun _ => h1

theorem boostGate_frame (s : State) : Frame stageParts s (boostGate s) := by
  have h : Frame stageParts s { s with plt.boostHeld := false } := by
    intro p hp; cases p <;> first | exact absurd (by decide) hp | simp [agree]
  exact h.trans (stageDecision_frame _)

/-! ### Settle end, entry to RUN, raise requests, confirm inputs -/

theorem plantSettled_frame (s : State) : Frame (.surface :: .heatSide :: stageParts) s (plantSettled s) := by
  unfold plantSettled
  extract_lets before s1 s2
  have h1 : Frame (.surface :: .heatSide :: stageParts) s s1 := (judgeRaise_frame s).widen (by decide)
  have h2 : Frame (.surface :: .heatSide :: stageParts) s1 s2 :=
    Frame.ite (fun _ => Frame.refl _ _) fun _ => (judgeSoftWatch_frame s1).widen (by decide)
  exact h1.trans (h2.trans (((postPlant_frame s2 _).widen (by decide)).trans
    (((judgeHeatSide_frame _).widen (by decide)).trans ((stageDecision_frame _).widen (by decide)))))

theorem plantEnterRun_frame (s : State) : Frame (.surface :: .heatSide :: stageParts) s (plantEnterRun s) := by
  unfold plantEnterRun
  extract_lets u1 s1 s2 s3 u2 s4
  have h0 : Frame (.surface :: .heatSide :: stageParts) s { s with plt.mean := surfaceMean s, plt.boostHeld := gateLevel s 5 } := by
    intro p hp; cases p <;> first | exact absurd (by decide) hp | simp [agree]
  have h1 : Frame (.surface :: .heatSide :: stageParts) s s1 := h0.trans ((judgeRaise_frame _).widen (by decide))
  have h2 : Frame (.surface :: .heatSide :: stageParts) s1 s2 := (postPlant_frame s1 _).widen (by decide)
  have h3 : Frame (.surface :: .heatSide :: stageParts) s2 s3 := (judgeDerate_frame s2).widen (by decide)
  have h4 : Frame (.surface :: .heatSide :: stageParts) s3 s4 := by
    intro p hp; cases p <;> first | exact absurd (by decide) hp | simp [agree, s4, u2]
  exact h1.trans (h2.trans (h3.trans (h4.trans (((postHeat_frame s4 _).widen (by decide)).trans
    ((stageDecision_frame _).widen (by decide))))))

theorem takeRaise_frame (s : State) (r : Int) : Frame (.surface :: stageParts) s (takeRaise s r) := by
  unfold takeRaise
  extract_lets u1 s1 correction raised applied s2 u2 s3 s4
  have h1 : Frame (.surface :: stageParts) s s1 := by
    intro p hp; cases p <;> first | exact absurd (by decide) hp | simp [agree, s1, u1]
  refine Frame.ite (fun _ => ?_) fun _ => h1
  have h2 : Frame (.surface :: stageParts) s1 s2 := (judgeRaise_frame s1).widen (by decide)
  have h3 : Frame (.surface :: stageParts) s2 s3 :=
    Frame.ite (fun _ => Frame.refl _ _) fun _ => (postPlant_frame s2 _).widen (by decide)
  have h4 : Frame (.surface :: stageParts) s3 s4 :=
    Frame.ite (fun _ => Frame.refl _ _) fun _ => (judgeSoftWatch_frame s3).widen (by decide)
  exact h1.trans (h2.trans (h3.trans (h4.trans
    (Frame.ite (fun _ => Frame.refl _ _) fun _ => (stageDecision_frame s4).widen (by decide)))))

theorem confirmStage_frame (levels : Vector Bool 6) (s : State) (n : Fin 6) :
    Frame stageParts s (confirmStage levels s n) := by
  unfold confirmStage
  extract_lets u1 s1
  have h1 : Frame stageParts s s1 := by
    intro p hp; cases p <;> first | exact absurd (by decide) hp | simp [agree, s1, u1]
  exact Frame.ite (fun _ => h1.trans (stageChange_frame s1 n _ _)) fun _ =>
    Frame.ite (fun _ => h1.trans (stageChange_frame s1 n _ _)) fun _ => h1

end Sys2Proof.Machine
end

