-- ==== Sys2Proof/Laws/Stands.lean ====
section
/-! SUPPORT. The frames of spectator heating's operations. -/

namespace Sys2Proof.Machine

open Sys2Proof

/-- A state that differs in the zones alone. -/
theorem zones_frame (s : State) (v : Vector Zone 8) : Frame [.zones, .transit] s { s with sph.zones := v } := by
  intro p hp; cases p <;> first | exact absurd (by decide) hp | simp [agree]

theorem setZone_frame (s : State) (z : Fin 8) (f : Zone → Zone) : Frame [.zones, .transit] s (setZone s z f) :=
  zones_frame s _

theorem postDemands_frame (s : State) (before : Vector Zone 8) : Frame [.zones, .transit] s (postDemands s before) := by
  unfold postDemands
  split
  · exact Frame.refl _ _
  · exact (postHeat_frame s _).widen (by decide)

theorem reformZones_frame (which : Fin 8 → Bool) (s : State) : Frame [.zones, .transit] s (reformZones which s) :=
  (zones_frame s _).trans (postDemands_frame _ _)

theorem handOut_frame (s : State) : Frame [.zones, .transit] s (handOut s) := zones_frame s _

theorem postStands_frame (s : State) : Frame [.zones, .transit] s (postStands s) := by
  unfold postStands
  refine Frame.ite (fun _ => Frame.refl _ _) fun _ => ?_
  have h : Frame [.zones, .transit] s { s with sph.stands := standsFigure s } := by
    intro p hp; cases p <;> first | exact absurd (by decide) hp | simp [agree]
  exact h.trans ((postLoad_frame _ _).widen (by decide))

theorem afterZone_frame (s : State) (z : Fin 8) (entered : Bool) :
    Frame [.zones, .transit] s (afterZone s z entered) := by
  unfold afterZone
  extract_lets s1
  have h1 : Frame [.zones, .transit] s s1 := reformZones_frame _ s
  exact Frame.ite (fun _ => h1.trans ((handOut_frame s1).trans (postStands_frame _))) fun _ => h1

theorem zoneInhibits_frame (s : State) (changed : Fin 8 → Bool) :
    Frame [.zones, .transit] s (zoneInhibits s changed) := by
  unfold zoneInhibits
  extract_lets level acts moved u t
  have h : Frame [.zones, .transit] s t := (zones_frame s moved).trans (reformZones_frame acts _)
  exact Frame.ite (fun _ => h.trans ((handOut_frame t).trans (postStands_frame _))) fun _ => h

theorem setZoneState_frame (s : State) (z : Fin 8) (dest : ZoneState) :
    Frame [.zones, .transit] s (setZoneState s z dest) := by
  unfold setZoneState
  dsimp only
  refine Frame.ite (fun _ => ?_) fun _ => Frame.ite (fun _ => ?_) fun _ => ?_
  all_goals exact (setZone_frame s z _).trans (afterZone_frame _ z _)

theorem groupDUpdate_frame (s : State) : Frame [.zones, .transit] s (groupDUpdate s) :=
  Frame.ite (fun _ => (zones_frame s _).trans ((zones_frame _ _).trans (postDemands_frame _ _))) fun _ =>
    Frame.refl _ _

theorem dropAboveCount_frame (s : State) : Frame [.zones, .transit] s (dropAboveCount s) := zones_frame s _

theorem heatSettled_frame (s : State) : Frame [.zones, .transit] s (heatSettled s) := by
  unfold heatSettled
  refine ((reformZones_frame (fun _ => true) s).trans (dropAboveCount_frame _)).trans
    (Frame.trans ?_ (postStands_frame _))
  exact Frame.foldl dropOverCap (fun s p => Frame.ite (fun _ => setZone_frame s p.1 _) fun _ => Frame.refl _ _) _ _

theorem nightZonesOff_frame (s : State) : Frame [.zones, .transit] s (nightZonesOff s) := by
  unfold nightZonesOff
  dsimp only
  split
  · exact (zones_frame s _).trans (postStands_frame _)
  · exact (zones_frame s _).trans ((postHeat_frame _ _).widen (by decide))

theorem takeZoneGrants_frame (s : State) (grants : Vector (Nat × RowState) 8) :
    Frame [.zones, .transit] s (takeZoneGrants s grants) :=
  (zones_frame s _).trans ((handOut_frame _).trans (postStands_frame _))

theorem takeCap_frame (s : State) (c : CapInput) : Frame [.caps, .zones, .transit] s (takeCap s c) := by
  unfold takeCap
  extract_lets s1
  have h1 : Frame [.caps, .zones, .transit] s s1 := by
    intro p hp; cases p <;> first | exact absurd (by decide) hp | (cases c <;> simp [agree, s1, Sph.keep])
  exact Frame.ite (fun _ => h1.trans ((reformZones_frame _ s1).widen (by decide))) fun _ => h1

end Sys2Proof.Machine
end

