-- ==== Sys2Proof/Laws/Tables.lean ====
section
/-! SUPPORT. The frames of the ice load table and of the heat allocation table. -/

namespace Sys2Proof.Machine

open Sys2Proof

/-! ### The ice load table -/

/-- What an event of the ice load table touches. -/
def loadParts : List Part := [.loadTable, .transit, .notices, .cells]

theorem overBudgetChanged_frame (s : State) : Frame [.transit, .notices] s (overBudgetChanged s) :=
  ((post_frame s _ _ _ _).widen (by decide)).trans ((postCap_frame _ _).widen (by decide))

theorem takeLoadPosting_frame (s : State) (p : LoadPosting) : Frame loadParts s (takeLoadPosting s p) := by
  unfold takeLoadPosting
  extract_lets t t' before u s1
  have h1 : Frame loadParts s s1 := by
    intro p hp; cases p <;> first | exact absurd (by decide) hp | simp [agree, s1]
  have h2 : Frame loadParts s { s with ilt := t } := by
    intro p hp; cases p <;> first | exact absurd (by decide) hp | simp [agree]
  refine Frame.ite (fun _ => Frame.ite (fun _ => h1) fun _ => ?_) fun _ => h2
  exact h1.trans (((overBudgetChanged_frame s1).widen (by decide)).trans ((sync_frame _).widen (by decide)))

/-! ### The heat allocation table -/

/-- What an allocation pass touches. -/
def heatParts : List Part := [.heatTable, .transit, .notices]

theorem postShortfalls_frame (before : Vector HeatRow 11) (s : State) :
    Frame heatParts s (postShortfalls before s) := by
  refine Frame.foldl _ (fun s r => ?_) _ _
  exact Frame.ite (fun _ => (post_frame s _ _ _ _).widen (by decide)) fun _ => Frame.refl _ _

theorem hat_frame (s : State) (h : Hat) : Frame heatParts s { s with hat := h } := by
  intro p hp; cases p <;> first | exact absurd (by decide) hp | simp [agree]

theorem allocationPass_frame (s : State) : Frame heatParts s (allocationPass s) := by
  unfold allocationPass
  extract_lets before served rows u s1 s2
  have h1 : Frame heatParts s s1 := hat_frame s _
  have h2 : Frame heatParts s1 s2 := postShortfalls_frame before s1
  refine h1.trans (h2.trans ?_)
  intro p hp; cases p <;> first | exact absurd (by decide) hp | simp [agree]

theorem passIfPosted_frame (s : State) : Frame heatParts s (passIfPosted s) :=
  Frame.ite (fun _ => allocationPass_frame s) fun _ => Frame.refl _ _

theorem takeHeatPosting_frame (s : State) (p : HeatPosting) : Frame heatParts s (takeHeatPosting s p) :=
  (hat_frame s _).trans (passIfPosted_frame _)

theorem takeMaxima_frame (s : State) (maxima : List (Fin 11 × Nat)) : Frame heatParts s (takeMaxima s maxima) :=
  (hat_frame s _).trans (passIfPosted_frame _)

end Sys2Proof.Machine
end

