-- ==== Sys2Proof/Laws/Events.lean ====
section
/-! SUPPORT. The frames of the condition array's, the probe scanner's and the operating state controller's operations. -/

namespace Sys2Proof.Machine

open Sys2Proof

/-! ### Link -/

theorem linkFault_frame (s : State) (f : LinkFault) : Frame [.line] s (linkFault s f) := by
  intro p hp; cases p <;> first | exact absurd (by decide) hp | simp [agree, linkFault]

theorem restartSilence_frame (s : State) : Frame [.silence] s (restartSilence s) := by
  unfold restartSilence
  refine Frame.ite (fun _ => ?_) fun _ => Frame.refl _ _
  intro p hp; cases p <;> first | exact absurd (by decide) hp | simp [agree]

/-- What an arriving byte touches. -/
def lineParts : List Part := [.line, .intake, .path, .silence]

theorem offer_frame (s : State) (r : Request) : Frame lineParts s (offer s r) := by
  unfold offer
  refine Frame.ite (fun _ => ?_) fun _ => ?_
  · have h : Frame lineParts s { s with link.intake := s.link.intake ++ [r] } := by
      intro p hp; cases p <;> first | exact absurd (by decide) hp | simp [agree]
    exact h.trans ((restartSilence_frame _).widen (by decide))
  · intro p hp; cases p <;> first | exact absurd (by decide) hp | simp [agree]

theorem midFrame_frame (s : State) (rx : RxState) : Frame lineParts s (midFrame s rx) := by
  intro p hp; cases p <;> first | exact absurd (by decide) hp | simp [agree, midFrame]

theorem linkFault_frame' (s : State) (f : LinkFault) : Frame lineParts s (linkFault s f) :=
  (linkFault_frame s f).widen (by decide)

theorem takeByte_frame (s : State) (b : LineByte) : Frame lineParts s (takeByte s b) := by
  have h : Frame lineParts s { s with link.rx := .hunt, link.gap := none } := by
    intro p hp; cases p <;> first | exact absurd (by decide) hp | simp [agree]
  unfold takeByte
  refine Frame.ite (fun _ => linkFault_frame' _ _) fun _ => ?_
  split
  · exact Frame.ite (fun _ => midFrame_frame _ _) fun _ => Frame.refl _ _
  · exact midFrame_frame _ _
  · exact Frame.ite (fun _ => midFrame_frame _ _) fun _ => linkFault_frame' _ _
  · exact Frame.ite (fun _ => midFrame_frame _ _) fun _ => midFrame_frame _ _
  · exact midFrame_frame _ _
  · refine Frame.ite (fun _ => ?_) fun _ => linkFault_frame' _ _
    dsimp only
    split
    · exact h.trans (offer_frame _ _)
    · exact h

theorem resetPart_frame (s : State) (cause : ResetCause) (strap : Bool) :
    Frame resetParts s (resetPart s cause strap) := by
  unfold resetPart
  split
  all_goals intro p hp; cases p <;> first | exact absurd (by decide) hp | simp [agree, State.afterReset]

/-! ### Condition array -/

theorem thresholdsUpdate_frame (s : State) (groups : Group → Bool) :
    Frame [.thresholds] s (thresholdsUpdate s groups) := by
  intro p hp; cases p <;> first | exact absurd (by decide) hp | simp [agree, thresholdsUpdate]

/-- What the base-tick event touches. -/
def baseParts : List Part := iceParts ++ fogParts ++ [.inputs, .cells, .gates, .zones, .effects]

theorem cnd_frame (s : State) (c : Cnd) (h : c.thresholds = s.cnd.thresholds) :
    Frame baseParts s { s with cnd := c } := by
  intro p hp; cases p <;> first | exact absurd (by decide) hp | simp [agree, h]

theorem clockStep_frame (s : State) : Frame [.inputs, .cells] s (clockStep s) := by
  intro p hp; cases p <;> first | exact absurd (by decide) hp | simp [agree, clockStep]

theorem stepOne_frame (s : State) : Frame [.inputs, .cells] s (stepOne s) :=
  Frame.ite (fun _ => Frame.refl _ _) fun _ => clockStep_frame s

theorem countInputs_thresholds (c : Cnd) (now : TickCount) (entry exit : Bool) :
    (countInputs c now entry exit).thresholds = c.thresholds := by
  unfold countInputs; split <;> rfl

theorem sampleStep_frame (s : State) (fi : Vector Bool 8) (entry exit : Bool) :
    Frame baseParts s (sampleStep s fi entry exit) := by
  unfold sampleStep
  extract_lets before u s1
  have h1 : Frame baseParts s s1 := cnd_frame s _ (countInputs_thresholds _ _ _ _)
  refine h1.trans (Frame.trans (t := if s1.cnd.occupancy = before then s1 else s1.postLoad (.occupancy s1.cnd.occupancy))
    (Frame.ite (fun _ => Frame.refl _ _) fun _ => (postLoad_frame _ _).widen (by decide)) ?_)
  exact (sync_frame _).widen (by decide)

theorem latch_frame (s : State) : Frame baseParts s (latch s) := cnd_frame s _ rfl

theorem hazeGate_frame (s : State) (level : Bool) : Frame baseParts s (hazeGate s level) := by
  intro p hp; cases p <;> first | exact absurd (by decide) hp | simp [agree, hazeGate]

theorem strobeGate_frame (s : State) (level : Bool) : Frame baseParts s (strobeGate s level) := by
  intro p hp; cases p <;> first | exact absurd (by decide) hp | simp [agree, strobeGate]

theorem handGate_frame (s : State) (g : Fin 14) : Frame baseParts s (handGate s g) := by
  unfold handGate
  dsimp only
  split
  · exact (resurfaceGate_frame _ _).widen (by decide)
  · exact (fogSeenGate_frame _ _).widen (by decide)
  · exact hazeGate_frame _ _
  · exact strobeGate_frame _ _
  · exact (doorOpenGate_frame _ _).widen (by decide)
  · exact (boostGate_frame _).widen (by decide)
  · exact Frame.refl _ _

theorem latchStep_frame (s : State) : Frame baseParts s (latchStep s) := by
  unfold latchStep
  extract_lets before s1 changed t
  have h1 : Frame baseParts s s1 := latch_frame s
  have h2 : Frame baseParts s1 t := Frame.foldl _ handGate_frame _ _
  have h3 : Frame baseParts t (fogGatesDone (changed 1 || changed 4) t) := (fogGatesDone_frame _ t).widen (by decide)
  exact h1.trans (h2.trans (h3.trans (((zoneInhibits_frame _ _).widen (by decide)).trans
    ((sync_frame _).widen (by decide)))))

theorem clocksFirst_frame (s : State) : Frame [.inputs, .cells] s (clocksFirst s) := by
  have h : Frame [.inputs, .cells] (clockStep s) (clocksFirst s) := by
    intro p hp; cases p <;> first | exact absurd (by decide) hp | simp [agree, clocksFirst]
  exact (clockStep_frame s).trans h

/-! ### Probe scanner -/

theorem postFaults_frame (s : State) (g : Group) (before : Vector Channel 8) :
    Frame [.notices] s (postFaults s g before) :=
  Frame.foldl _ (fun s _ => Frame.ite (fun _ => post_frame s _ _ _ _) fun _ => Frame.refl _ _) _ _

theorem setRecords_frame (s : State) (g : Group) (f : Fin 8 → Channel → Channel) :
    Frame [.probes, .notices] s (setRecords s g f) :=
  ((setGroup_frame s g _).widen (by decide)).trans ((postFaults_frame _ _ _).widen (by decide))

theorem setAllRecords_frame (s : State) (f : Group → Fin 8 → Channel → Channel) :
    Frame [.probes, .notices] s (setAllRecords s f) := by
  unfold setAllRecords
  extract_lets before s1
  have h1 : Frame [.probes, .notices] s s1 :=
    Frame.foldl _ (fun s g => (setGroup_frame s g _).widen (by decide)) allGroups s
  exact h1.trans (Frame.foldl _ (fun s g => (postFaults_frame s g _).widen (by decide)) allGroups s1)

theorem passUpdates_frame (s : State) (changed : Group → Bool) : Frame updateParts s (passUpdates s changed) := by
  unfold passUpdates
  extract_lets s1 s2 s3
  have h1 : Frame updateParts s s1 := (thresholdsUpdate_frame s changed).widen (by decide)
  have h2 : Frame updateParts s1 s2 := (plantUpdate_frame _ _ s1).widen (by decide)
  have h3 : Frame updateParts s2 s3 := (fogUpdate_frame _ _ s2).widen (by decide)
  have h : Frame updateParts s s3 := h1.trans (h2.trans h3)
  exact Frame.ite (fun _ => h.trans ((groupDUpdate_frame s3).widen (by decide))) fun _ => h

theorem groupUpdate_frame (s : State) (g : Group) : Frame updateParts s (groupUpdate s g) := passUpdates_frame s _

/-- What an event of the probe scanner that changes records touches. -/
def recordParts : List Part := .probes :: updateParts

theorem judgeStale_frame (s : State) (g : Group) : Frame recordParts s (judgeStale s g) := by
  unfold judgeStale
  exact Frame.ite (fun _ => ((setRecords_frame s g _).widen (by decide)).trans
    ((groupUpdate_frame _ g).widen (by decide))) fun _ => Frame.refl _ _

theorem judgeAllStale_frame (s : State) : Frame recordParts s (judgeAllStale s) :=
  ((setAllRecords_frame s _).widen (by decide)).trans ((passUpdates_frame _ _).widen (by decide))

theorem judgeSweep_frame (s : State) (g : Group) (x y : Vector Int 8) : Frame recordParts s (judgeSweep s g x y) := by
  unfold judgeSweep
  exact ((setGroup_frame s g _).widen (by decide)).trans (((setRecords_frame _ g _).widen (by decide)).trans
    ((groupUpdate_frame _ g).widen (by decide)))

theorem giveSchedules_frame (s : State) (schedules : List (Group × Schedule)) :
    Frame [.probes] s (giveSchedules s schedules) :=
  Frame.foldl (fun s (x : Group × Schedule) => setGroup s x.1 fun r => { r with schedule := some x.2 })
    (fun s x => setGroup_frame s x.1 _) schedules s

theorem settleUpdates_frame (p : ProfileKind) (s : State) (changed : Group → Bool) :
    Frame updateParts s (settleUpdates p s changed) := by
  unfold settleUpdates
  split
  · exact ((thresholdsUpdate_frame s changed).widen (by decide)).trans ((fogJudgements_frame _ _ _).widen (by decide))
  all_goals exact passUpdates_frame s changed

theorem takeSchedules_frame (was s : State) (p : ProfileKind) (schedules : List (Group × Schedule)) :
    Frame recordParts s (takeSchedules was s p schedules) := by
  unfold takeSchedules
  extract_lets now set
  have h1 : Frame recordParts s now := (giveSchedules_frame s schedules).widen (by decide)
  have h2 : Frame recordParts now set := (setAllRecords_frame now _).widen (by decide)
  exact h1.trans (h2.trans ((settleUpdates_frame p set _).widen (by decide)))

theorem substituteGroup_frame (s : State) (g : Group) (items : List Item) :
    Frame recordParts s (substituteGroup s g items) := by
  unfold substituteGroup
  exact ((setGroup_frame s g _).widen (by decide)).trans (((setRecords_frame _ g _).widen (by decide)).trans
    ((groupUpdate_frame _ g).widen (by decide)))

/-! ### Operating state controller -/

theorem postCalibration_frame (s : State) (swept : Nat) : Frame [.sweep, .notices] s (postCalibration s swept) := by
  have h : Frame [.sweep, .notices] s { s with ops.failedCount := 0, ops.sweptCount := 0 } := by
    intro p hp; cases p <;> first | exact absurd (by decide) hp | simp [agree]
  exact h.trans ((post_frame _ _ _ _ _).widen (by decide))

theorem enterRun_frame (s : State) : Frame runParts s (enterRun s) := by
  unfold enterRun
  extract_lets u s1
  have h1 : Frame runParts s s1 := by
    intro p hp; cases p <;> first | exact absurd (by decide) hp | simp [agree, s1, u]
  exact h1.trans (((plantEnterRun_frame s1).widen (by decide)).trans (((fogEnterRun_frame _).widen (by decide)).trans
    (((restartSilence_frame _).widen (by decide)).trans ((postCalibration_frame _ 5).widen (by decide)))))

theorem sweepFinished_frame (s : State) : Frame runParts s (sweepFinished s) := by
  unfold sweepFinished
  exact Frame.ite (fun _ => Frame.ite (fun _ => enterRun_frame s) fun _ => Frame.refl _ _) fun _ =>
    (postCalibration_frame s _).widen (by decide)

theorem beginSweepStep_frame (s : State) (g : Group) : Frame [.probes] s (beginSweepStep s g) := setGroup_frame s g _

theorem stepEnded_frame (s : State) (g : Group) (failed : Nat) :
    Frame (.probes :: runParts) s (stepEnded s g failed) := by
  unfold stepEnded
  extract_lets u s1
  have h1 : Frame (.probes :: runParts) s s1 := by
    intro p hp; cases p <;> first | exact absurd (by decide) hp | simp [agree, s1, u]
  split
  · exact h1.trans ((sweepFinished_frame s1).widen (by decide))
  · exact h1.trans ((beginSweepStep_frame s1 _).widen (by decide))

theorem appendSweep_frame (s : State) (groups : List Group) : Frame [.sweep, .probes] s (appendSweep s groups) := by
  unfold appendSweep
  extract_lets list u t
  have h1 : Frame [.sweep, .probes] s t := by
    intro p hp; cases p <;> first | exact absurd (by decide) hp | simp [agree, t, u]
  split
  · exact h1.trans ((beginSweepStep_frame t _).widen (by decide))
  · exact h1

theorem acceptLoad_frame (s : State) (p : ProfileKind) (items : List Item) :
    Frame [.mode, .slots] s (acceptLoad s p items) := by
  intro q hq; cases q <;> first
    | exact absurd (by decide) hq
    | (cases p <;> simp [agree, acceptLoad, setSlot])

theorem markLoaded_frame (s : State) (p : ProfileKind) : Frame [.mode, .slots, .notices] s (markLoaded s p) := by
  unfold markLoaded
  extract_lets slot items s1 s2
  have h1 : Frame [.mode, .slots, .notices] s s1 := by
    intro q hq; cases q <;> first | exact absurd (by decide) hq | (cases p <;> simp [agree, s1, setSlot])
  have h2 : Frame [.mode, .slots, .notices] s1 s2 := (post_frame s1 _ _ _ _).widen (by decide)
  have h3 : Frame [.mode, .slots, .notices] s2 { s2 with ops.part := .configured } := by
    intro q hq; cases q <;> first | exact absurd (by decide) hq | simp [agree]
  exact h1.trans (h2.trans (Frame.ite (fun _ => h3) fun _ => Frame.refl _ _))

theorem takeValues_frame (s : State) (p : ProfileKind) (items : List Item) :
    Frame (settleParts p) s (takeValues s p items) := by
  intro q hq; cases p <;> cases q <;> first
    | exact absurd (by decide) hq
    | simp [agree, takeValues, lightTakeValues]

theorem jobSettled_frame (s : State) (p : ProfileKind) : Frame (settleParts p) s (jobSettled s p) := by
  unfold jobSettled
  cases p
  · refine Frame.ite (fun _ => (plantSettled_frame s).widen (by decide)) fun _ => ?_
    intro q hq; cases q <;> first | exact absurd (by decide) hq | simp [agree, storeSettleFigures]
  · exact Frame.ite (fun _ => (fogSettled_frame s).widen (by decide)) fun _ => Frame.refl _ _
  · exact Frame.ite (fun _ => (heatSettled_frame s).widen (by decide)) fun _ => Frame.refl _ _
  · refine Frame.ite (fun _ => ?_) fun _ => Frame.refl _ _
    have h : Frame (settleParts .light) s { s with ops.fallbackWaiting := false } := by
      intro q hq; cases q <;> first | exact absurd (by decide) hq | simp [agree]
    exact h.trans ((askFallback_frame _).widen (by decide))

theorem passMaxima_frame (s : State) (p : ProfileKind) : Frame heatParts s (passMaxima s p) :=
  Frame.ite (fun _ => Frame.refl _ _) fun _ => takeMaxima_frame s _

theorem plantHousekeeping_frame (s : State) (recalibrate : Bool) :
    Frame [.silence, .sweep, .probes] s (plantHousekeeping s recalibrate) := by
  unfold plantHousekeeping
  extract_lets s1
  have h1 : Frame [.silence, .sweep, .probes] s s1 := (restartSilence_frame s).widen (by decide)
  exact Frame.ite (fun _ => h1.trans ((appendSweep_frame s1 _).widen (by decide))) fun _ => h1

theorem settleEnd_frame (s : State) (p : ProfileKind) : Frame (settleParts p) s (settleEnd s p) := by
  unfold settleEnd
  extract_lets items was s1 s2
  have h1 : Frame (settleParts p) s s1 :=
    ((markLoaded_frame s p).widen (by cases p <;> decide)).trans (takeValues_frame _ p _)
  have h2 : Frame (settleParts p) s1 s2 :=
    ((takeSchedules_frame was s1 p _).widen (by cases p <;> decide)).trans ((jobSettled_frame _ p).trans
      ((passMaxima_frame _ p).widen (by cases p <;> decide)))
  exact Frame.ite (fun _ => h1.trans (h2.trans ((plantHousekeeping_frame s2 _).widen (by cases p <;> decide)))) fun _ =>
    h1.trans h2

theorem enterFallback_frame (s : State) :
    Frame (.mode :: .silence :: .sweep :: playParts) s (enterFallback s) := by
  unfold enterFallback
  extract_lets u s1
  have h1 : Frame (.mode :: .silence :: .sweep :: playParts) s s1 := by
    intro q hq; cases q <;> first | exact absurd (by decide) hq | simp [agree, s1, u]
  have h2 : Frame (.mode :: .silence :: .sweep :: playParts) s1 { s1 with ops.fallbackWaiting := true } := by
    intro q hq; cases q <;> first | exact absurd (by decide) hq | simp [agree]
  exact h1.trans (Frame.ite (fun _ => h2.trans ((post_frame _ _ _ _ _).widen (by decide))) fun _ =>
    (askFallback_frame s1).widen (by decide))

theorem returnToRun_frame (s : State) : Frame [.mode, .silence, .sweep] s (returnToRun s) := by
  have h : Frame [.mode, .silence, .sweep] s { s with ops.part := .run, ops.fallbackWaiting := false } := by
    intro q hq; cases q <;> first | exact absurd (by decide) hq | simp [agree]
  exact h.trans ((restartSilence_frame _).widen (by decide))

/-- What the entry to NIGHT_HOLD touches. -/
def nightParts : List Part :=
  [.mode, .silence, .sweep, .cells, .memory, .zones, .dimmers, .effects, .playback, .transit, .notices]

theorem enterNight_frame (s : State) : Frame nightParts s (enterNight s) := by
  unfold enterNight
  extract_lets u s1
  have h1 : Frame nightParts s s1 := by
    intro q hq; cases q <;> first | exact absurd (by decide) hq | simp [agree, s1, u]
  exact h1.trans (((retentionPurge_frame s1).widen (by decide)).trans (((nightZonesOff_frame _).widen (by decide)).trans
    ((nightLightingOff_frame _).widen (by decide))))

end Sys2Proof.Machine
end

