-- ==== Sys2Proof/Laws/Items.lean ====
section
/-! SUPPORT. What the item check finds, by the rules of R12 as `ItemsPass` and `ItemFails` state them. -/

namespace Sys2Proof.Machine

open Sys2Proof

variable {row : Nat → List Item → Option ItemSpec}

/-- The items at the front of a body that pass are all read, and the check goes on with what stands behind them. -/
theorem checkItems_front {front : List Byte} {seen : List Item} (h : ItemsPass row front seen) :
    ∀ (n : Nat) (rest : List Byte), (front ++ rest).length ≤ n →
      ∃ m, rest.length ≤ m ∧ checkItems row n (front ++ rest) [] = checkItems row m rest seen := by
  induction h with
  | none => intro n rest hn; exact ⟨n, hn, rfl⟩
  | next front seen id len value spec before known whole length range count apart ih =>
    intro n rest hn
    rw [List.append_assoc] at hn ⊢
    obtain ⟨m, hm, e⟩ := ih n _ hn
    rw [e]
    cases m with
    | zero => simp at hm
    | succ m =>
      refine ⟨m, by simp at hm ⊢; omega, ?_⟩
      have hv : (value ++ rest).take spec.len = value := by rw [← length, whole]; simp
      have hd : (value ++ rest).drop spec.len = rest := by rw [← length, whole]; simp
      have h1 : ¬(len.toNat ≠ spec.len ∨ (value ++ rest).length < len.toNat) := by simp; omega
      have h3 : ¬(spec.most ≤ countOf seen id.toNat) := by omega
      have h4 : (spec.distinct && (valuesOf seen id.toNat).any fun w =>
          w % 256 == itemValue spec.signed value % 256) = false := by
        cases hdist : spec.distinct with
        | false => rfl
        | true => simp; exact apart hdist
      simp only [List.cons_append, checkItems, known, hv, hd]
      rw [if_neg h1]
      simp [range, h3, h4]

/-- The check of a body whose next item fails names that item. -/
theorem checkItems_next_fails {seen : List Item} {id : Byte} {rest : List Byte} (h : ItemFails row seen id.toNat rest)
    (m : Nat) : checkItems row m (id :: rest) seen = .bad id.toNat := by
  cases m with
  | zero => rfl
  | succ m =>
    unfold checkItems
    cases h with
    | unknown _ h => simp [h]
    | noLength => cases hr : row id.toNat seen <;> simp [hr]
    | cutOff len rest h =>
      cases hr : row id.toNat seen with
      | none => simp [hr]
      | some spec => simp [hr, h]
    | length spec len rest known h => simp [known, h]
    | range spec len value rest known whole h =>
      simp only [known]
      by_cases hl : len.toNat = spec.len
      · have hv : (value ++ rest).take spec.len = value := by rw [← hl, whole]; simp
        simp [hl, hv, h]
      · simp [hl]
    | count spec rest known h =>
      simp only [known]
      split
      · rfl
      · split
        · rfl
        · simp
    | key spec len value rest w known whole distinct twice h =>
      simp only [known]
      by_cases hl : len.toNat = spec.len
      · have hv : (value ++ rest).take spec.len = value := by rw [← hl, whole]; simp
        have : (valuesOf seen id.toNat).any (fun w => w % 256 == itemValue spec.signed value % 256) = true := by
          rw [List.any_eq_true]; exact ⟨w, twice, by simpa using h⟩
        simp [hl, hv, distinct, this]
      · simp [hl]

/-- The first item that fails is named (R12). -/
theorem checkItems_fails {front : List Byte} {seen : List Item} {id : Byte} {rest : List Byte}
    (h : ItemsPass row front seen) (g : ItemFails row seen id.toNat rest) :
    checkItems row (front ++ id :: rest).length (front ++ id :: rest) [] = .bad id.toNat := by
  obtain ⟨m, -, e⟩ := checkItems_front h _ (id :: rest) (Nat.le_refl _)
  rw [e, checkItems_next_fails g]

/-- A body whose items all pass is read whole (R12). -/
theorem checkItems_passes {body : List Byte} {items : List Item} (h : ItemsPass row body items) :
    checkItems row body.length body [] = .ok items := by
  obtain ⟨m, -, e⟩ := checkItems_front h body.length [] (by simp)
  rw [List.append_nil] at e; rw [e]; cases m <;> rfl

/-! ### The relations of a profile -/

/-- A check that relates two items finds an offence exactly when both stand and their values fail; it is the later. -/
theorem relate_eq_some {items : List Item} {a b id : Nat} {bad : Int → Int → Bool} :
    relate items a b bad = some id ↔
      ∃ x y, valueOf items a = some x ∧ valueOf items b = some y ∧ bad x y = true ∧ laterOf items a b = id := by
  unfold relate
  cases valueOf items a <;> cases valueOf items b <;> simp

/-- The first offence of a list of checks is one of them. -/
theorem firstOf_mem {id : Nat} : ∀ {checks : List (Option Nat)}, firstOf checks = some id → some id ∈ checks
  | some _ :: _, h => by cases h; exact .head _
  | none :: _, h => .tail _ (firstOf_mem h)

/-- A list of checks without a first offence has none at all. -/
theorem firstOf_none {checks : List (Option Nat)} (h : firstOf checks = none) : ∀ e ∈ checks, e = none := by
  induction checks with
  | nil => exact fun _ he => nomatch he
  | cons check rest ih =>
    cases check with
    | some _ => cases h
    | none => simpa using ih h

/-- The relations of a profile are the listed ones, in their order. -/
theorem profileRelations_eq (p : ProfileKind) (items : List Item) :
    profileRelations p items = firstOf ((profilePairs p).map fun pair => relate items pair.1 pair.2.1 pair.2.2) := by
  cases p <;> rfl

/-- The id that the relations of a profile name is one that a failing relation names. -/
theorem profileRelations_fails {p : ProfileKind} {items : List Item} {id : Nat}
    (h : profileRelations p items = some id) : PairFails p items id := by
  rw [profileRelations_eq] at h
  obtain ⟨⟨a, b, bad⟩, listed, found⟩ := List.mem_map.mp (firstOf_mem h)
  obtain ⟨x, y, first, second, fails, rfl⟩ := relate_eq_some.mp found
  exact .pair a b bad x y listed first second fails

/-- Where the relations of a profile name no item, none of them fails. -/
theorem profileRelations_pass {p : ProfileKind} {items : List Item} (h : profileRelations p items = none) (id : Nat) :
    ¬PairFails p items id := by
  rintro ⟨a, b, bad, x, y, listed, first, second, fails⟩
  rw [profileRelations_eq] at h
  have found := relate_eq_some.mpr ⟨x, y, first, second, fails, rfl⟩
  rw [firstOf_none h _ (List.mem_map.mpr ⟨_, listed, rfl⟩)] at found
  cases found

end Sys2Proof.Machine
end

