-- ==== Sys2Proof/Laws/Rows.lean ====
section
/-! SUPPORT. The frame of each command: what it may change, one lemma for each row. -/

namespace Sys2Proof.Machine

open Sys2Proof

/-- The frame of what a row ends with. -/
theorem ended_frame {may : List Part} {s t u : State} (h : Frame may s u)
    (e : (Host.Outcome.next u : Host.Outcome State Fault Refusal) = .next t) : Frame may s t := by
  cases e; exact h

/-- A row that acts only when its event is due. -/
theorem guarded_frame {may : List Part} {s t u : State} {c : Prop} [Decidable c] (h : c → Frame may s u)
    (e : (if c then Host.Outcome.next u else .next s : Host.Outcome State Fault Refusal) = .next t) :
    Frame may s t := by
  split at e
  · cases e; exact h ‹_›
  · cases e; exact Frame.refl _ _

theorem execIdentify_frame {s t : State} (e : execIdentify s = .next t) : Frame requestParts s t := reads_frame e
theorem execBatchRead_frame {s t : State} (e : execBatchRead s = .next t) : Frame requestParts s t := reads_frame e
theorem execCellRead_frame {s t : State} (e : execCellRead s = .next t) : Frame requestParts s t := reads_frame e
theorem execPlantRead_frame {s t : State} (e : execPlantRead s = .next t) : Frame requestParts s t := reads_frame e
theorem execLoadTableRead_frame {s t : State} (e : execLoadTableRead s = .next t) : Frame requestParts s t := reads_frame e
theorem execHeatTableRead_frame {s t : State} (e : execHeatTableRead s = .next t) : Frame requestParts s t := reads_frame e
theorem execZoneRead_frame {s t : State} (e : execZoneRead s = .next t) : Frame requestParts s t := reads_frame e
theorem execFogRead_frame {s t : State} (e : execFogRead s = .next t) : Frame requestParts s t := reads_frame e
theorem execPlaybackRead_frame {s t : State} (e : execPlaybackRead s = .next t) : Frame requestParts s t := reads_frame e

theorem execUnknownKindRequest_frame {s t : State} (e : execUnknownKindRequest s = .next t) : Frame (requestParts ++ []) s t := by
  refine owned_frame (fun items u => ?_) e
  exact Frame.refl _ _

theorem execProfileRead_frame {s t : State} (e : execProfileRead s = .next t) : Frame (requestParts ++ []) s t := by
  refine owned_frame (fun items u => ?_) e
  unfold ownProfileRead; dsimp only; split <;> exact Frame.refl _ _

theorem execCueRead_frame {s t : State} (e : execCueRead s = .next t) : Frame (requestParts ++ []) s t := by
  refine owned_frame (fun items u => ?_) e
  unfold ownCueRead; dsimp only; repeat' split
  all_goals exact Frame.refl _ _

theorem execStatusRead_frame {s t : State} (e : execStatusRead s = .next t) : Frame (requestParts ++ [.line, .notices]) s t := by
  refine owned_frame (fun items u => ?_) e
  unfold ownStatusRead; dsimp only; split
  · intro p hp; cases p <;> first | exact absurd (by decide) hp | simp [agree]
  · exact Frame.refl _ _

theorem execNoticeFetch_frame {s t : State} (e : execNoticeFetch s = .next t) : Frame (requestParts ++ [.notices]) s t := by
  refine owned_frame (fun items u => ?_) e
  intro p hp; cases p <;> first | exact absurd (by decide) hp | simp [agree, ownNoticeFetch]

theorem execPowerFlagClear_frame {s t : State} (e : execPowerFlagClear s = .next t) : Frame (requestParts ++ [.causes]) s t := by
  refine owned_frame (fun items u => ?_) e
  intro p hp; cases p <;> first | exact absurd (by decide) hp | simp [agree, ownPowerFlagClear]

theorem execRestart_frame {s t : State} (e : execRestart s = .next t) : Frame (requestParts ++ [.dispatcher]) s t := by
  refine owned_frame (fun items u => ?_) e
  intro p hp; cases p <;> first | exact absurd (by decide) hp | simp [agree, ownRestart]

theorem execCueStore_frame {s t : State} (e : execCueStore s = .next t) : Frame (requestParts ++ [.dispatcher]) s t := by
  refine takeRequest_frame (fun r items u => ?_) e
  unfold ownCueStore; dsimp only; split
  · exact Frame.refl _ _
  · intro p hp; cases p <;> first | exact absurd (by decide) hp | simp [agree]

theorem execListErase_frame {s t : State} (e : execListErase s = .next t) : Frame (requestParts ++ [.dispatcher]) s t := by
  refine takeRequest_frame (fun r items u => ?_) e
  intro p hp; cases p <;> first | exact absurd (by decide) hp | simp [agree, ownListErase]

theorem execResume_frame {s t : State} (e : execResume s = .next t) : Frame (requestParts ++ [.mode, .silence, .sweep, .cells]) s t := by
  refine owned_frame (fun items u => ?_) e
  unfold ownResume; split
  · exact ((returnToRun_frame u).widen (by decide)).trans ((sync_frame _).widen (by decide))
  · exact Frame.refl _ _

theorem execProfileLoad_frame {s t : State} (e : execProfileLoad s = .next t) : Frame (requestParts ++ [.mode, .slots]) s t := by
  refine owned_frame (fun items u => ?_) e
  unfold ownProfileLoad; dsimp only; repeat' split
  all_goals first | exact Frame.refl _ _ | exact acceptLoad_frame _ _ _

theorem execCalibrate_frame {s t : State} (e : execCalibrate s = .next t) : Frame (requestParts ++ [.mode, .sweep, .probes]) s t := by
  refine owned_frame (fun items u => ?_) e
  unfold ownCalibrate; dsimp only; repeat' split
  all_goals first | exact Frame.refl _ _ | exact (appendSweep_frame u _).widen (by decide) | skip
  have h : Frame [.mode, .sweep, .probes] u
      { u with ops.part := .calibrating, ops.warmUp := some warmUpTicks, ops.sweepList := [] } := by
    intro p hp; cases p <;> first | exact absurd (by decide) hp | simp [agree]
  exact h.trans ((appendSweep_frame _ _).widen (by decide))

theorem execNightHoldEnter_frame {s t : State} (e : execNightHoldEnter s = .next t) : Frame (requestParts ++ [.mode, .silence, .sweep, .cells, .memory, .zones, .dimmers, .effects, .playback,
      .transit, .notices]) s t := by
  refine owned_frame (fun items u => ?_) e
  unfold ownNightEnter; split
  · exact (enterNight_frame u).trans ((sync_frame _).widen (by decide))
  · exact Frame.refl _ _

theorem execNightHoldLeave_frame {s t : State} (e : execNightHoldLeave s = .next t) : Frame (requestParts ++ (updateParts ++ [.mode, .silence, .sweep, .cells, .probes])) s t := by
  refine owned_frame (fun items u => ?_) e
  unfold ownNightLeave; split
  · exact ((returnToRun_frame u).widen (by decide)).trans
      (((judgeAllStale_frame _).widen (by decide)).trans
        ((sync_frame _).widen (by decide)))
  · exact Frame.refl _ _

theorem execSubstitute_frame {s t : State} (e : execSubstitute s = .next t) : Frame (requestParts ++ (updateParts ++ [.probes, .cells])) s t := by
  refine owned_frame (fun items u => ?_) e
  unfold ownSubstitute; dsimp only; repeat' split
  all_goals first | exact Frame.refl _ _ | skip
  exact ((substituteGroup_frame u _ items).widen (by decide)).trans ((sync_frame _).widen (by decide))

theorem execSubstituteEnd_frame {s t : State} (e : execSubstituteEnd s = .next t) : Frame (requestParts ++ [.probes]) s t := by
  refine owned_frame (fun items u => ?_) e
  unfold ownSubstituteEnd; dsimp only; split
  · exact setGroup_frame u _ _
  · exact Frame.refl _ _

theorem execCellSet_frame {s t : State} (e : execCellSet s = .next t) : Frame (requestParts ++ [.cells]) s t := by
  refine owned_frame (fun items u => ?_) e
  unfold ownCellSet; dsimp only
  have h (v : Vector Cell 16) : Frame [.cells] u { u with cnd.cells := v } := by
    intro p hp; cases p <;> first | exact absurd (by decide) hp | simp [agree]
  exact (h _).trans (sync_frame _)

theorem execThresholdSet_frame {s t : State} (e : execThresholdSet s = .next t) : Frame (requestParts ++ [.thresholds, .cells]) s t := by
  refine owned_frame (fun items u => ?_) e
  unfold ownThresholdSet; dsimp only
  have h (v : Vector Threshold 8) : Frame [.thresholds, .cells] u { u with cnd.thresholds := v } := by
    intro p hp; cases p <;> first | exact absurd (by decide) hp | simp [agree]
  exact (h _).trans ((sync_frame _).widen (by decide))

theorem execGateBind_frame {s t : State} (e : execGateBind s = .next t) : Frame (requestParts ++ [.gates]) s t := by
  refine owned_frame (fun items u => ?_) e
  intro p hp; cases p <;> first | exact absurd (by decide) hp | simp [agree, ownGateBind]

theorem execCounterSet_frame {s t : State} (e : execCounterSet s = .next t) : Frame (requestParts ++ [.inputs, .cells]) s t := by
  refine owned_frame (fun items u => ?_) e
  unfold ownCounterSet; dsimp only
  refine Frame.trans ?_ ((sync_frame _).widen (by decide))
  intro p hp; cases p <;> first | exact absurd (by decide) hp | simp [agree]

theorem execOccupancySet_frame {s t : State} (e : execOccupancySet s = .next t) : Frame (requestParts ++ [.inputs, .transit]) s t := by
  refine owned_frame (fun items u => ?_) e
  unfold ownOccupancySet; dsimp only; split
  all_goals intro p hp; cases p <;> first | exact absurd (by decide) hp | simp [agree]

theorem execIceMode_frame {s t : State} (e : execIceMode s = .next t) : Frame (requestParts ++ (iceParts ++ [.cells])) s t := by
  refine owned_frame (fun items u => ?_) e
  unfold ownIceMode; dsimp only; repeat' split
  all_goals first | exact Frame.refl _ _ | skip
  exact ((changeIce_frame u _ _).widen (by decide)).trans ((sync_frame _).widen (by decide))

theorem execStageLockLock_frame {s t : State} (e : execStageLockLock s = .next t) : Frame (requestParts ++ stageParts) s t := by
  refine owned_frame (fun items u => ?_) e
  unfold ownStageLock; dsimp only; split
  all_goals first | exact Frame.refl _ _ | exact (stageChange_frame u _ _ _).trans (stageDecision_frame _)

theorem execStageLockUnlock_frame {s t : State} (e : execStageLockUnlock s = .next t) : Frame (requestParts ++ stageParts) s t := by
  refine owned_frame (fun items u => ?_) e
  unfold ownStageUnlock; dsimp only; split
  all_goals first | exact Frame.refl _ _ | exact (stageChange_frame u _ _ _).trans (stageDecision_frame _)

theorem execMeltDemand_frame {s t : State} (e : execMeltDemand s = .next t) : Frame (requestParts ++ [.heatTable, .transit, .notices, .cells]) s t := by
  refine owned_frame (fun items u => ?_) e
  unfold ownMeltDemand; dsimp only
  exact ((hat_frame u _).widen (by decide)).trans (((passIfPosted_frame _).widen (by decide)).trans
    ((sync_frame _).widen (by decide)))

theorem execZoneSetOff_frame {s t : State} (e : execZoneSetOff s = .next t) : Frame (requestParts ++ [.zones, .transit]) s t := by
  refine owned_frame (fun items u => ?_) e
  unfold ownZoneOff zoneSet; split
  · exact Frame.refl _ _
  · exact setZoneState_frame u _ _

theorem execZoneSetSetback_frame {s t : State} (e : execZoneSetSetback s = .next t) : Frame (requestParts ++ [.zones, .transit]) s t := by
  refine owned_frame (fun items u => ?_) e
  unfold ownZoneSetback zoneSet; split
  · exact Frame.refl _ _
  · exact setZoneState_frame u _ _

theorem execZoneSetOccupied_frame {s t : State} (e : execZoneSetOccupied s = .next t) : Frame (requestParts ++ [.zones, .transit]) s t := by
  refine owned_frame (fun items u => ?_) e
  unfold ownZoneOccupied zoneSet; split
  · exact Frame.refl _ _
  · exact (setZone_frame u _ _).trans (setZoneState_frame _ _ _)

theorem execGoCue_frame {s t : State} (e : execGoCue s = .next t) : Frame (requestParts ++ playParts) s t := by
  refine owned_frame (fun items u => ?_) e
  exact goNamed_frame _ _ _

theorem execGoNext_frame {s t : State} (e : execGoNext s = .next t) : Frame (requestParts ++ playParts) s t := by
  refine owned_frame (fun items u => ?_) e
  exact goNamed_frame _ _ _

theorem execRelease_frame {s t : State} (e : execRelease s = .next t) : Frame (requestParts ++ playParts) s t := by
  refine owned_frame (fun items u => ?_) e
  exact releaseAll_frame _ _

theorem execEffectSet_frame {s t : State} (e : execEffectSet s = .next t) : Frame (requestParts ++ [.effects]) s t := by
  refine owned_frame (fun items u => ?_) e
  unfold ownEffectSet; split
  · exact Frame.refl _ _
  · intro p hp; cases p <;> first | exact absurd (by decide) hp | simp [agree]

theorem execStrobe_frame {s t : State} (e : execStrobe s = .next t) : Frame (requestParts ++ [.effects, .notices]) s t := by
  refine owned_frame (fun items u => ?_) e
  have h : Frame [.effects, .notices] u { u with evl.dropReported := true } := by
    intro p hp; cases p <;> first | exact absurd (by decide) hp | simp [agree]
  have k (n : Nat) : Frame [.effects, .notices] u (dropFlash u n) :=
    Frame.ite (fun _ => Frame.refl _ _) fun _ => h.trans ((post_frame _ _ _ _ _).widen (by decide))
  unfold ownStrobe; repeat' split
  · exact Frame.refl _ _
  · exact k 1
  · exact k 0
  · intro p hp; cases p <;> first | exact absurd (by decide) hp | simp [agree]

theorem execFrameReceive_frame {bytes : List LineByte} {s t : State} (e : execFrameReceive bytes s = .next t) : Frame ([.line, .intake, .path, .silence]) s t := by
  cases e
  exact Frame.foldl takeByte takeByte_frame _ _

theorem execGapExpiry_frame {s t : State} (e : execGapExpiry s = .next t) : Frame ([.line]) s t := by
  exact guarded_frame (fun _ => linkFault_frame s .gap) e

theorem execTransmitEnd_frame {strap : Bool} {s t : State} (e : execTransmitEnd strap s = .next t) : Frame (resetParts) s t := by
  unfold execTransmitEnd at e
  split at e
  · cases e; exact Frame.refl _ _
  · split at e
    · cases e; exact resetPart_frame _ _ _
    · cases e
      intro p hp; cases p <;> first | exact absurd (by decide) hp | simp [agree]

theorem execPowerOnReset_frame {strap : Bool} {s t : State} (e : execPowerOnReset strap s = .next t) : Frame (resetParts) s t := by
  cases e; exact resetPart_frame _ _ _

theorem execResetLine_frame {strap : Bool} {s t : State} (e : execResetLine strap s = .next t) : Frame (resetParts) s t := by
  cases e; exact resetPart_frame _ _ _

theorem execBrownout_frame {strap : Bool} {s t : State} (e : execBrownout strap s = .next t) : Frame (resetParts) s t := by
  cases e; exact resetPart_frame _ _ _

theorem execSpacingExpiry_frame {s t : State} (e : execSpacingExpiry s = .next t) : Frame ([.slots]) s t := by
  refine guarded_frame (fun _ => ?_) e
  intro p hp; cases p <;> first | exact absurd (by decide) hp | simp [agree]

theorem execSettleEnd_frame {p : ProfileKind} {s t : State} (e : execSettleEnd p s = .next t) : Frame (settleParts p) s t := by
  exact guarded_frame (fun _ => (settleEnd_frame s p).trans ((sync_frame _).widen (by cases p <;> decide))) e

theorem execWarmUpExpiry_frame {s t : State} (e : execWarmUpExpiry s = .next t) : Frame (.cells :: runParts) s t := by
  unfold execWarmUpExpiry at e
  split at e
  · extract_lets o u at e
    have h : Frame (.cells :: runParts) s u := by
      intro p hp; cases p <;> first | exact absurd (by decide) hp | simp [agree, u, o]
    split at e
    · exact ended_frame (h.trans (((enterRun_frame u).widen (by decide)).trans ((sync_frame _).widen (by decide)))) e
    · exact ended_frame h e
  · cases e; exact Frame.refl _ _

theorem execHostSilenceExpiry_frame {s t : State} (e : execHostSilenceExpiry s = .next t) : Frame (.cells :: .mode :: .silence :: .sweep :: playParts) s t := by
  exact guarded_frame (fun _ => ((enterFallback_frame s).widen (by decide)).trans
    ((sync_frame _).widen (by decide))) e

theorem execPeriodExpiry_frame {g : Group} {s t : State} (e : execPeriodExpiry g s = .next t) : Frame ([.probes]) s t := by
  unfold execPeriodExpiry at e
  repeat' split at e
  all_goals cases e
  all_goals first | exact Frame.refl _ _ | exact setGroup_frame _ _ _

theorem execGroupSample_frame {g : Group} {x : Vector Int 8} {s t : State} (e : execGroupSample g x s = .next t) : Frame (updateParts ++ [.probes, .cells]) s t := by
  refine guarded_frame (fun _ => ?_) e
  exact ((setGroup_frame s g _).widen (by decide)).trans (((setRecords_frame _ g _).widen (by decide)).trans
    (((groupUpdate_frame _ g).widen (by decide)).trans ((sync_frame _).widen (by decide))))

theorem execRecordStale_frame {g : Group} {s t : State} (e : execRecordStale g s = .next t) : Frame (updateParts ++ [.probes, .cells]) s t := by
  cases e
  exact ((judgeStale_frame s g).widen (by decide)).trans ((sync_frame _).widen (by decide))

theorem execFirstSweepSample_frame {g : Group} {x : Vector Int 8} {s t : State} (e : execFirstSweepSample g x s = .next t) : Frame ([.probes]) s t := by
  exact guarded_frame (fun _ => setGroup_frame s g _) e

theorem execSecondSweepSample_frame {g : Group} {x : Vector Int 8} {s t : State} (e : execSecondSweepSample g x s = .next t) : Frame (updateParts ++ runParts ++ [.probes, .cells]) s t := by
  unfold execSecondSweepSample at e
  split at e
  · cases e; exact Frame.refl _ _
  · next first _ =>
    split at e
    · cases e
      exact ((judgeSweep_frame s g first x).widen (by decide)).trans
        (((stepEnded_frame (judgeSweep s g first x) g _).widen (by decide)).trans ((sync_frame _).widen (by decide)))
    · cases e; exact Frame.refl _ _

theorem execSubstitutionLimitExpiry_frame {g : Group} {s t : State} (e : execSubstitutionLimitExpiry g s = .next t) : Frame ([.probes]) s t := by
  exact guarded_frame (fun _ => setGroup_frame s g _) e

theorem execBaseTick_frame {fi : Vector Bool 8} {entry exit : Bool} {s t : State} (e : execBaseTick fi entry exit s = .next t) : Frame (iceParts ++ fogParts ++ [.inputs, .cells, .gates, .zones, .effects]) s t := by
  refine guarded_frame (fun _ => ?_) e
  have h : Frame baseParts (stepOne s) { stepOne s with cnd.baseDue := false, cnd.clocksTaken := false } :=
    cnd_frame _ _ rfl
  exact ((stepOne_frame s).widen (by decide)).trans (h.trans ((sampleStep_frame _ _ _ _).trans (latchStep_frame _)))

theorem execDelayComplete_frame {k : Fin 16} {s t : State} (e : execDelayComplete k s = .next t) : Frame ([.inputs, .cells]) s t := by
  exact guarded_frame (fun _ => clocksFirst_frame s) e

theorem execOneshotPulseEnd_frame {k : Fin 16} {s t : State} (e : execOneshotPulseEnd k s = .next t) : Frame ([.inputs, .cells]) s t := by
  exact guarded_frame (fun _ => clocksFirst_frame s) e

theorem execRateWindowClose_frame {k : Fin 16} {s t : State} (e : execRateWindowClose k s = .next t) : Frame ([.inputs, .cells]) s t := by
  exact guarded_frame (fun _ => clocksFirst_frame s) e

theorem execEdgePulseEnd_frame {k : Fin 16} {s t : State} (e : execEdgePulseEnd k s = .next t) : Frame ([.inputs, .cells]) s t := by
  exact guarded_frame (fun _ => clocksFirst_frame s) e

theorem execCountTerminal_frame {k : Fin 16} {s t : State} (e : execCountTerminal k s = .next t) : Frame ([.inputs, .cells]) s t := by
  exact guarded_frame (fun _ => clocksFirst_frame s) e

theorem execSoftWatchExpiry_frame {s t : State} (e : execSoftWatchExpiry s = .next t) : Frame (.cells :: iceParts) s t := by
  refine guarded_frame (fun _ => ?_) e
  have h : Frame (.cells :: iceParts) s { s with plt.softWatch := none } := by
    intro p hp; cases p <;> first | exact absurd (by decide) hp | simp [agree]
  exact h.trans (((changeIce_frame _ _ _).widen (by decide)).trans (((post_frame _ _ _ _ _).widen (by decide)).trans
    ((sync_frame _).widen (by decide))))

theorem execSoftClearExpiry_frame {s t : State} (e : execSoftClearExpiry s = .next t) : Frame (.cells :: iceParts) s t := by
  refine guarded_frame (fun _ => ?_) e
  have h : Frame (.cells :: iceParts) s { s with plt.softClear := none } := by
    intro p hp; cases p <;> first | exact absurd (by decide) hp | simp [agree]
  exact h.trans (((returnIce_frame _).widen (by decide)).trans ((sync_frame _).widen (by decide)))

theorem execRecoverLimitExpiry_frame {s t : State} (e : execRecoverLimitExpiry s = .next t) : Frame (.cells :: iceParts) s t := by
  refine guarded_frame (fun _ => ?_) e
  have h : Frame (.cells :: iceParts) s { s with plt.recover := none } := by
    intro p hp; cases p <;> first | exact absurd (by decide) hp | simp [agree]
  exact h.trans (((returnIce_frame _).widen (by decide)).trans ((sync_frame _).widen (by decide)))

theorem execRecoverSecond_frame {s t : State} (e : execRecoverSecond s = .next t) : Frame ([.surface, .transit]) s t := by
  refine guarded_frame (fun _ => ?_) e
  have h : Frame [.surface, .transit] s { s with plt.secondDue := false } := by
    intro p hp; cases p <;> first | exact absurd (by decide) hp | simp [agree]
  exact Frame.ite (fun _ => h.trans ((postPlant_frame _ _).widen (by decide))) fun _ => h

theorem execRaiseRequest_frame {s t : State} (e : execRaiseRequest s = .next t) : Frame (.surface :: stageParts) s t := by
  unfold execRaiseRequest at e
  split at e
  · cases e; exact Frame.refl _ _
  · next rest _ =>
    cases e
    have h : Frame (.surface :: stageParts) s { s with transit.raises := rest } := by
      intro p hp; cases p <;> first | exact absurd (by decide) hp | simp [agree]
    exact h.trans (takeRaise_frame _ _)

theorem execConfirmRead_frame {levels : Vector Bool 6} {s t : State} (e : execConfirmRead levels s = .next t) : Frame (stageParts) s t := by
  refine guarded_frame (fun _ => ?_) e
  have h : Frame stageParts s { s with plt.confirmDue := false } := by
    intro p hp; cases p <;> first | exact absurd (by decide) hp | simp [agree]
  have k := h.trans (Frame.foldl (confirmStage levels) (confirmStage_frame levels) (List.finRange 6) _)
  exact Frame.ite (fun _ => k) fun _ => k.trans (stageDecision_frame _)

theorem execStartLimitExpiry_frame {n : Fin 6} {s t : State} (e : execStartLimitExpiry n s = .next t) : Frame (stageParts) s t := by
  exact guarded_frame (fun _ => (stageChange_frame s n _ _).trans (stageDecision_frame _)) e

theorem execStopTimeExpiry_frame {n : Fin 6} {s t : State} (e : execStopTimeExpiry n s = .next t) : Frame (stageParts) s t := by
  exact guarded_frame (fun _ => (stageChange_frame s n _ _).trans (stageDecision_frame _)) e

theorem execMinimumPassed_frame {n : Fin 6} {s t : State} (e : execMinimumPassed n s = .next t) : Frame (stageParts) s t := by
  refine guarded_frame (fun _ => ?_) e
  refine Frame.trans ?_ (stageDecision_frame _)
  intro p hp; cases p <;> first | exact absurd (by decide) hp | simp [agree]

theorem execTableUpdate_frame {s t : State} (e : execTableUpdate s = .next t) : Frame (stageParts) s t := by
  unfold execTableUpdate at e
  split at e
  · cases e; exact Frame.refl _ _
  · cases e
    refine Frame.trans ?_ (stageDecision_frame _)
    intro p hp; cases p <;> first | exact absurd (by decide) hp | simp [agree]

theorem execLoadTablePosting_frame {poster : LoadPoster} {s t : State} (e : execLoadTablePosting poster s = .next t) : Frame ([.loadTable, .transit, .notices, .cells]) s t := by
  unfold execLoadTablePosting at e
  split at e
  · cases e; exact Frame.refl _ _
  · next rest _ =>
    cases e
    have h : Frame loadParts s { s with transit.loads := rest } := by
      intro p hp; cases p <;> first | exact absurd (by decide) hp | simp [agree]
    exact h.trans (takeLoadPosting_frame _ _)

theorem execExitDwellExpiry_frame {s t : State} (e : execExitDwellExpiry s = .next t) : Frame ([.loadTable, .transit, .notices, .cells]) s t := by
  refine guarded_frame (fun _ => ?_) e
  have h (x : Ilt) : Frame loadParts s { s with ilt := x } := by
    intro p hp; cases p <;> first | exact absurd (by decide) hp | simp [agree]
  exact (h _).trans (((overBudgetChanged_frame _).widen (by decide)).trans ((sync_frame _).widen (by decide)))

theorem execClearHoldExpiry_frame {s t : State} (e : execClearHoldExpiry s = .next t) : Frame ([.loadTable, .transit, .notices, .cells]) s t := by
  unfold execClearHoldExpiry at e
  have h (x : Ilt) : Frame loadParts s { s with ilt := x } := by
    intro p hp; cases p <;> first | exact absurd (by decide) hp | simp [agree]
  split at e
  · dsimp only at e
    split at e
    · cases e
      exact (h _).trans (((overBudgetChanged_frame _).widen (by decide)).trans ((sync_frame _).widen (by decide)))
    · cases e; exact h _
  · cases e; exact Frame.refl _ _

theorem execTableChangeRetry_frame {s t : State} (e : execTableChangeRetry s = .next t) : Frame (playParts) s t := by
  unfold execTableChangeRetry at e
  split at e
  · cases e; exact Frame.refl _ _
  · cases e
    refine Frame.trans ?_ (retryDeferred_frame _)
    intro p hp; cases p <;> first | exact absurd (by decide) hp | simp [agree]

theorem execHeatTablePosting_frame {poster : HeatPoster} {s t : State} (e : execHeatTablePosting poster s = .next t) : Frame ([.heatTable, .transit, .notices, .cells]) s t := by
  unfold execHeatTablePosting at e
  split at e
  · cases e; exact Frame.refl _ _
  · next rest _ =>
    cases e
    have h : Frame [.transit] s { s with transit.heats := rest } := by
      intro p hp; cases p <;> first | exact absurd (by decide) hp | simp [agree]
    exact (h.widen (by decide)).trans (((takeHeatPosting_frame _ _).widen (by decide)).trans
      ((sync_frame _).widen (by decide)))

theorem execZoneGrantHandback_frame {s t : State} (e : execZoneGrantHandback s = .next t) : Frame ([.zones, .transit]) s t := by
  unfold execZoneGrantHandback at e
  split at e
  · cases e; exact Frame.refl _ _
  · next rest _ =>
    cases e
    refine Frame.trans ?_ (takeZoneGrants_frame _ _)
    intro p hp; cases p <;> first | exact absurd (by decide) hp | simp [agree]

theorem execNearIceCapInput_frame {poster : CapPoster} {s t : State} (e : execNearIceCapInput poster s = .next t) : Frame ([.caps, .zones, .transit]) s t := by
  unfold execNearIceCapInput at e
  split at e
  · cases e; exact Frame.refl _ _
  · next rest _ =>
    cases e
    refine Frame.trans ?_ (takeCap_frame _ _)
    intro p hp; cases p <;> first | exact absurd (by decide) hp | simp [agree]

theorem execPreheatLimitExpiry_frame {z : Fin 8} {s t : State} (e : execPreheatLimitExpiry z s = .next t) : Frame ([.zones, .transit]) s t := by
  exact guarded_frame (fun _ => (setZone_frame s z _).trans (afterZone_frame _ z _)) e

theorem execMinimumOnExpiry_frame {z : Fin 8} {n : Fin 3} {s t : State} (e : execMinimumOnExpiry z n s = .next t) : Frame ([.zones, .transit]) s t := by
  exact guarded_frame (fun _ => (setZone_frame s z _).trans ((handOut_frame _).trans (postStands_frame _))) e

theorem execDescendDwellExpiry_frame {s t : State} (e : execDescendDwellExpiry s = .next t) : Frame (.cells :: fogParts) s t := by
  refine guarded_frame (fun _ => ?_) e
  have h : Frame fogParts s { s with fgw.dwell := none } := by
    intro p hp; cases p <;> first | exact absurd (by decide) hp | simp [agree]
  exact ((h.trans ((setLevel_frame _ _).trans (formOutputs_frame' _ _))).widen (by decide)).trans
    ((sync_frame _).widen (by decide))

theorem execFogBlindExpiry_frame {s t : State} (e : execFogBlindExpiry s = .next t) : Frame (.cells :: fogParts) s t := by
  unfold execFogBlindExpiry at e
  split at e
  · extract_lets before u s1 s2 at e
    have h : Frame (.cells :: fogParts) s s1 := by
      intro p hp; cases p <;> first | exact absurd (by decide) hp | simp [agree, s1, u]
    have k : Frame fogParts s1 s2 :=
      Frame.ite (fun _ => Frame.refl _ _) fun _ => (setLevel_frame s1 .alert).trans (formOutputs_frame' false _)
    have n : Frame (.cells :: fogParts) s2 (s2.post .fogBlind 0 (fogRank s2.fgw.level).val (fogRank before).val) :=
      (post_frame s2 _ _ _ _).widen (by decide)
    cases e
    exact h.trans ((k.widen (by decide)).trans (n.trans ((sync_frame _).widen (by decide))))
  · cases e; exact Frame.refl _ _

theorem execDesiccantHandback_frame {s t : State} (e : execDesiccantHandback s = .next t) : Frame ([.fog, .transit]) s t := by
  unfold execDesiccantHandback at e
  split at e
  · cases e; exact Frame.refl _ _
  · next rest _ =>
    cases e
    refine Frame.trans ?_ (takeDesiccant_frame _ _ _)
    intro p hp; cases p <;> first | exact absurd (by decide) hp | simp [agree]

theorem execStarveExpiry_frame {s t : State} (e : execStarveExpiry s = .next t) : Frame ([.fog, .transit]) s t := by
  refine guarded_frame (fun _ => ?_) e
  refine Frame.trans ?_ (formOutputs_frame _ _)
  intro p hp; cases p <;> first | exact absurd (by decide) hp | simp [agree]

theorem execCueStoreComplete_frame {s t : State} (e : execCueStoreComplete s = .next t) : Frame ([.path, .dispatcher, .memory]) s t := by
  unfold execCueStoreComplete at e
  split at e
  · cases e; exact completeStore_frame _ _ _
  · cases e; exact Frame.refl _ _

theorem execListEraseComplete_frame {s t : State} (e : execListEraseComplete s = .next t) : Frame ([.path, .dispatcher, .memory, .waiting, .playback, .notices]) s t := by
  unfold execListEraseComplete at e
  split at e
  · cases e; exact completeErase_frame _ _ _
  · cases e; exact Frame.refl _ _

theorem execPostedCueDue_frame {s t : State} (e : execPostedCueDue s = .next t) : Frame (playParts) s t := by
  cases e; exact playDue_frame _ _

theorem execDeferExpiry_frame {s t : State} (e : execDeferExpiry s = .next t) : Frame ([.waiting, .notices]) s t := by
  exact guarded_frame (fun _ => dropDeferred_frame s _) e

theorem execFadeEndExpiry_frame {s t : State} (e : execFadeEndExpiry s = .next t) : Frame (playParts) s t := by
  exact guarded_frame (fun _ => (fadeEnded_frame s).trans (settlePlay_frame _)) e

theorem execFollowExpiry_frame {s t : State} (e : execFollowExpiry s = .next t) : Frame (playParts) s t := by
  refine guarded_frame (fun _ => ?_) e
  have h : Frame playParts s { s with evl.follow := none } := by
    intro p hp; cases p <;> first | exact absurd (by decide) hp | simp [agree]
  exact h.trans ((followNext_frame _).trans (settlePlay_frame _))

theorem execChannelFadeEnd_frame {ch : Fin 24} {s t : State} (e : execChannelFadeEnd ch s = .next t) : Frame ([.dimmers]) s t := by
  cases e
  intro p hp; cases p <;> first | exact absurd (by decide) hp | simp [agree]

theorem execChannelPeriodBoundary_frame {ch : Fin 24} {s t : State} (e : execChannelPeriodBoundary ch s = .next t) : Frame ([.dimmers]) s t := by
  refine guarded_frame (fun _ => ?_) e
  intro p hp; cases p <;> first | exact absurd (by decide) hp | simp [agree]

theorem execReleaseTimerExpiry_frame {s t : State} (e : execReleaseTimerExpiry s = .next t) : Frame ([.playback, .transit]) s t := by
  exact guarded_frame (fun _ => releaseEnd_frame s) e

theorem execStrobePulseExpiry_frame {s t : State} (e : execStrobePulseExpiry s = .next t) : Frame ([.effects]) s t := by
  refine guarded_frame (fun _ => ?_) e
  intro p hp; cases p <;> first | exact absurd (by decide) hp | simp [agree]

end Sys2Proof.Machine
end

