-- ==== Sys2Proof/Tests/Slice0.lean ====
section
/-! SUPPORT. Tests of the model on small states: what the well-formedness check refuses, worked figures of the manual,
and for every statement a state that meets its premises, with the step it speaks of. -/

namespace Sys2Proof.Tests

open Sys2Proof Sys2Proof.Machine

set_option Elab.async false

/-! ### Small states -/

/-- The least value of a range. -/
def least : Range → Int
  | .entry | .zeroOr _ _ => 0
  | .between lo _ => lo
  | .oneOf vals => vals.headD 0

/-- A profile's items: the values given, every other one the least of its range. -/
def stored (p : ProfileKind) (given : List (Nat × Int)) : List Item :=
  (profileItems p).map fun sp =>
    { id := sp.id, val := ((given.find? fun x => x.1 == sp.id).map Prod.snd).getD (least sp.range) }

/-- The same value for a run of ids. -/
def run (first count : Nat) (v : Int) : List (Nat × Int) := (List.range count).map fun i => (first + i, v)

def plantGiven : List (Nat × Int) :=
  run 0x10 6 500 ++ run 0x16 6 600 ++ run 0x1C 6 100 ++ run 0x22 6 100 ++ run 0x28 6 50 ++ run 0x2E 6 40
  ++ [(0x34, 400), (0x35, 100)] ++ run 0x36 4 (-600) ++ run 0x3A 4 (-500) ++ run 0x3E 4 200
  ++ [(0x42, 300), (0x43, 900), (0x44, 1200), (0x45, 200)] ++ run 0x46 4 15
  ++ [(0x4A, 900), (0x4B, 60000), (0x4C, 50), (0x4D, 100), (0x4E, 100), (0x4F, 20), (0x50, 15), (0x51, 300),
      (0x52, 200), (0x53, 100), (0x54, 300), (0x55, 3000), (0x56, 5000), (0x57, 100), (0x58, 2), (0x59, 1000),
      (0x5A, 50), (0x5B, 500), (0x5C, 10), (0x5D, 1500), (0x5E, 255), (0x5F, 500), (0x60, 10), (0x61, 1500),
      (0x62, 255)]

def fogGiven : List (Nat × Int) :=
  [(0x10, 400), (0x11, 250), (0x12, 100), (0x13, 50), (0x14, 100), (0x16, 80), (0x17, 300), (0x18, 500),
   (0x1A, 1), (0x1B, 2), (0x1C, 3), (0x1F, 100), (0x20, 150), (0x21, 100), (0x22, 80), (0x23, 40), (0x25, 70),
   (0x26, 90), (0x27, 100), (0x28, 500), (0x29, 10), (0x2A, 1500), (0x2B, 255), (0x2C, 500), (0x2D, 10), (0x2E, 1500),
   (0x2F, 255)]

def heatGiven : List (Nat × Int) :=
  [(0x10, 1)] ++ run 0x18 8 400 ++ run 0x20 8 100 ++ run 0x28 8 1000 ++ run 0x30 8 200 ++ run 0x38 8 10
  ++ run 0x40 8 50 ++ run 0x48 8 3
  ++ [(0x50, 4), (0x51, 30), (0x52, 50), (0x53, 300), (0x54, 500), (0x55, 10), (0x56, 1500), (0x57, 255)]

def lightGiven : List (Nat × Int) :=
  [(0x28, 8), (0x29, 2), (0x2A, 5), (0x2B, 300), (0x2C, 20), (0x2D, 3)]

/-- A LOADED profile. -/
def loaded (p : ProfileKind) (given : List (Nat × Int)) : ProfileSlot :=
  { status := .loaded, items := stored p given, settle := none }

/-- Every channel of a group reads a value, GOOD and PASSED. -/
def goodGroup (x : Schedule) (v : Int) : GroupRec :=
  { GroupRec.reset with
    period := some 400, schedule := some x,
    chans := Vector.replicate 8 { value := v, quality := .good, age := 3, mark := .passed } }

/-- A schedule of all channels. -/
def everyChannel : Schedule := { period := 500, warmUp := 10, stale := 1500, mask := 255#8 }

/-- The part in RUN with four profiles, every reading 10.00. -/
def base : State :=
  { State.reset with
    ops := { Ops.reset .powerOn true with
      part := .run, plant := loaded .plant plantGiven, fog := loaded .fog fogGiven, heat := loaded .heat heatGiven,
      light := loaded .light lightGiven, silence := some 900 },
    prb := Vector.replicate 5 (goodGroup everyChannel 1000),
    plt := { Plt.reset with profile := some (plantOf (stored .plant plantGiven)) },
    fgw := { Fgw.reset with profile := some (fogOf (stored .fog fogGiven)) },
    sph := { Sph.reset with profile := some (heatOf (stored .heat heatGiven)) },
    evl := { Evl.reset [] with profile := some (lightOf (stored .light lightGiven)) },
    ilt := { Ilt.reset with
      live := true, capacity := 3000, factor := 50, crowdPer := some 100, reserve := some 400, exitMargin := some 50,
      admission := 2600 } }

/-- The bytes of a request's items. -/
def body (items : List (Nat × List Byte)) : List Byte := items.flatMap replyItem

/-- A request that waits. -/
def ask (kind : Byte) (items : List (Nat × List Byte)) : Request := { tag := 7, kind := kind, body := body items }

/-- A state in which a request stands at the head of the intake. -/
def asking (s : State) (r : Request) : State := { s with link.intake := [r] }

/-- The premises of `Taken`, as one test. -/
def takes (row : Instr) (s : State) (r : Request) (items : List Item) : Bool :=
  s.link.intake.head? == some r && canTake s && requestRow r == row && screen (took s) r == .pass items

/-- The test is the premise. -/
theorem taken_of_takes {row : Instr} {s : State} {r : Request} {items : List Item} (h : takes row s r items = true) :
    Taken row s r items := by
  simp only [takes, Bool.and_eq_true, beq_iff_eq] at h
  exact ⟨h.1.1.1, h.1.1.2, h.1.2, h.2⟩

/-- What a command answers on a state, for a test of the next state. -/
def after (c : Instr) (s : State) (p : State → Bool) : Bool :=
  match exec c s with
  | .next t => p t
  | .fault _ => false
  | .refused _ => false

/-! ### Well-formed commands -/

theorem test_wellFormed_refuses_no_bytes : Instr.wellFormed (.frameReceive []) = false := by decide

theorem test_wellFormed_refuses_group_sample :
    Instr.wellFormed (.groupSample .a (Vector.replicate 8 32768)) = false := by decide

theorem test_wellFormed_refuses_first_sweep_sample :
    Instr.wellFormed (.firstSweepSample .b ((Vector.replicate 8 0).set 7 (-32769))) = false := by decide

theorem test_wellFormed_refuses_second_sweep_sample :
    Instr.wellFormed (.secondSweepSample .c ((Vector.replicate 8 0).set 0 40000)) = false := by decide

theorem test_wellFormed_takes_the_ends :
    Instr.wellFormed (.groupSample .e ((Vector.replicate 8 32767).set 3 (-32768))) = true
    ∧ Instr.wellFormed (.frameReceive [{ value := 0, stopOk := false }]) = true := by decide

theorem test_base_runs : running base = true := by decide +kernel

/-! ### The machine and resets -/

theorem test_step_takes_the_front :
    step { State.reset with pending := [.gapExpiry, .restart] }
      = exec .gapExpiry { State.reset with pending := [.restart] } := by rfl

theorem test_idle_ticks_only_when_nothing_is_due :
    State.reset.pending = [] ∧ due State.reset = false ∧ base.pending = [] ∧ due base = false
    ∧ due { base with cnd.baseDue := true } = true := by decide +kernel

theorem test_event_due : EventDue { base with cnd.baseDue := true } ∧ ¬EventDue base ∧ ¬EventDue State.reset :=
  ⟨.base rfl, fun h => absurd ((due_iff base).2 h) (by decide +kernel),
    fun h => absurd ((due_iff State.reset).2 h) (by decide +kernel)⟩

theorem test_restart_resets_when_its_reply_has_left :
    after (.transmitEnd true)
      { base with link.tx := some { tag := 1, kind := 0x85, body := [0], restart := true }, ops.powerFlag := false }
      (fun t => t.ops.resetCause == .restart && t.link.fastRate && !t.ops.powerFlag && t.evl.memory == []
        && t.ops.part == .unconfigured) = true := by decide +kernel

theorem test_transmit_end_sends_busy_then_the_next_reply :
    let f : Reply := { tag := 1, kind := 0x81, body := [0], restart := false }
    after (.transmitEnd false) { base with link.tx := some f, link.busyMark := some 9, link.replies := [f] }
      (fun t => t.link.tx == some { tag := 9, kind := 0xFF, body := [11, 0x10, 1, 0], restart := false }
        && t.link.replies == [f] && t.link.busyMark == none) = true
    ∧ after (.transmitEnd false) { base with link.tx := some f, link.replies := [f] }
      (fun t => t.link.tx == some f && t.link.replies == []) = true
    ∧ base.link.tx = none := by decide +kernel

/-! ### The message link -/

theorem test_crc_check_value :
    crc [0x31, 0x32, 0x33, 0x34, 0x35, 0x36, 0x37, 0x38, 0x39] = 0x29B1#16 := by decide +kernel

theorem test_wire_of_identify : wire 0x21 0x01 [] = [0xD5, 0x02, 0x00, 0x21, 0x01, 0x4C, 0x5E] := by decide +kernel

theorem test_frame_is_placed_and_restarts_silence :
    after (.frameReceive (arriving 5 0x01 [])) base
      (fun t => t.link.intake == [{ tag := 5, kind := 0x01, body := [] }] && t.ops.silence == some 1000
        && t.link.rx == .hunt && t.link.gap == none) = true := by decide +kernel

theorem test_body_is_placed_in_the_last_place :
    after (.frameReceive (arriving 5 0x01 (List.replicate 20 0xAA))) { base with link.intake := List.replicate 3 (ask 1 []) }
      (fun t => t.link.intake.length == 4) = true := by decide +kernel

/-- A byte with its stop bit at the idle level. -/
def byte (v : Byte) : Instr := .frameReceive [{ value := v, stopOk := true }]

theorem test_bytes_by_state :
    let rx (x : RxState) : State := { base with link.rx := x, link.gap := some 1 }
    let mid (x : RxState) (t : State) : Bool := t.link.rx == x && t.link.gap == some 3
    after (byte 0xD4) (rx .hunt) (fun t => t.link.rx == .hunt && t.link.gap == some 1) = true
    ∧ after (byte 0xD5) (rx .hunt) (mid (.length none)) = true
    ∧ after (byte 0xD5) (rx (.length none)) (mid (.length (some 0xD5))) = true
    ∧ after (byte 0) (rx (.length (some 2))) (mid (.body 2 [])) = true
    ∧ after (byte 9) (rx (.body 3 [8])) (mid (.body 3 [8, 9])) = true
    ∧ after (byte 9) (rx (.body 2 [8])) (mid (.check 2 [8, 9] none)) = true
    ∧ after (byte 0x4C) (rx (.check 2 [0x21, 1] none)) (mid (.check 2 [0x21, 1] (some 0x4C))) = true
    ∧ crc (le 2 2 ++ [0x21, 1]) = (0x4C : Byte) ++ (0x5E : Byte)
    ∧ after (byte 0x5E) (rx (.check 2 [0x21, 1] (some 0x4C)))
      (fun t => t.link.rx == .hunt && t.link.gap == none
        && t.link.intake == [{ tag := 0x21, kind := 1, body := [] }]) = true := by decide +kernel

theorem test_full_intake_marks_busy :
    let full := { base with link.intake := List.replicate 4 (ask 1 []) }
    let sending := { full with
      link.tx := some { tag := 1, kind := 0x81, body := [0], restart := false }, link.busyMark := some 3 }
    after (.frameReceive (arriving 5 0x01 [])) full
      (fun t => t.link.tx == some { tag := 5, kind := 0xFF, body := [11, 0x10, 1, 0], restart := false }
        && t.link.intake.length == 4 && t.link.busyMark == none) = true
    ∧ after (.frameReceive (arriving 5 0x01 [])) sending
      (fun t => t.link.busyMark == some 5 && t.link.overrun && t.link.tx == sending.link.tx) = true := by
  decide +kernel

theorem test_link_faults :
    after .gapExpiry { base with link.gap := some 0, link.faults.gap := 255 }
      (fun t => t.link.faults.gap == 255 && t.link.faults.last == some .gap) = true
    ∧ after (.frameReceive [{ value := 0, stopOk := true }]) { base with link.rx := .length (some 1) }
      (fun t => t.link.faults.length == 1 && t.link.rx == .hunt) = true
    ∧ after (.frameReceive [{ value := 2, stopOk := true }]) { base with link.rx := .length (some 1) }
      (fun t => t.link.faults.length == 1) = true
    ∧ after (.frameReceive [{ value := 2, stopOk := true }]) { base with link.rx := .length (some 0) }
      (fun t => t.link.faults.length == 0 && t.link.rx == .body 512 []) = true
    ∧ crc (le 2 2 ++ [1, 1]) ≠ (0 : BitVec 8) ++ (0 : BitVec 8)
    ∧ after (.frameReceive [{ value := 0, stopOk := true }]) { base with link.rx := .check 2 [1, 1] (some 0) }
      (fun t => t.link.faults.check == 1) = true := by decide +kernel

theorem test_screen_order :
    let settlingHeat := { base with ops.heat.status := .settling }
    after .unknownKindRequest (asking base (ask 0x07 []))
      (fun t => lastReply t.link == some (replyTo (ask 0x07 []) (plain .unknownKind))) = true
    ∧ 0x07 ∉ requestKinds ∧ canTake (asking base (ask 0x07 [])) = true
    ∧ checkBody (ask 0x43 [(0x10, [1])]) = .bad 0x10 ∧ checkBody (ask 0x43 []) = .ok []
    ∧ after .loadTableRead (asking base (ask 0x43 [(0x10, [1])]))
      (fun t => lastReply t.link == some (replyTo (ask 0x43 []) (badField 0x10))) = true
    ∧ after .loadTableRead (asking State.reset (ask 0x43 []))
      (fun t => lastReply t.link == some (replyTo (ask 0x43 []) (plain .notConfigured))) = true
    ∧ settlingJob settlingHeat (requestJob 0x52 [{ id := 0x10, val := 5 }]) = true
    ∧ after .meltDemand (asking settlingHeat (ask 0x52 [(0x10, [5, 0])]))
      (fun t => lastReply t.link == some (replyTo (ask 0x52 []) (plain .settling))) = true := by decide +kernel

theorem test_first_failing_item :
    checkBody (ask 0x63 [(0x10, [1]), (0x1F, [0])]) = .bad 0x1F
    ∧ checkBody (ask 0x63 [(0x10, [1, 0])]) = .bad 0x10
    ∧ checkBody { tag := 1, kind := 0x63, body := [0x10, 1, 1, 0x11] } = .bad 0x11
    ∧ checkBody { tag := 1, kind := 0x63, body := [0x10, 1, 1, 0x11, 2, 5] } = .bad 0x11
    ∧ checkBody (ask 0x63 [(0x10, [17]), (0x11, [0, 0])]) = .bad 0x10
    ∧ checkBody (ask 0x63 [(0x10, [1]), (0x10, [1])]) = .bad 0x10
    ∧ checkBody (ask 0x60 [(0x12, [3, 1, 0]), (0x12, [3, 2, 0])]) = .bad 0x12
    ∧ checkBody (ask 0x10 [(0x10, [5, 0])]) = .bad 0x01 ∧ checkBody (ask 0x10 [(0x01, [4])]) = .bad 0x01
    ∧ checkBody (ask 0x10 [(0x01, [3]), (0x28, [17])]) = .bad 0x28 := by decide +kernel

theorem test_failing_relation_and_missing_item :
    checkBody (ask 0x50 [(0x12, [0, 0]), (0x11, [0]), (0x10, [1])]) = .bad 0x11
    ∧ checkBody (ask 0x63 [(0x12, [1]), (0x10, [1])]) = .bad 0x10
    ∧ checkBody (ask 0x30 [(0x10, [0]), (0x11, [0]), (0x12, [0])]) = .bad 0x12
    ∧ checkBody (ask 0x30 [(0x17, [2]), (0x10, [0])]) = .bad 0x10
    ∧ checkBody (ask 0x30 [(0x10, [4]), (0x11, [1]), (0x12, [22]), (0x13, [0]), (0x14, [0]), (0x15, [0])]) = .bad 0x12
    ∧ checkBody (ask 0x63 [(0x11, [1, 0])]) = .bad 0x10 ∧ checkBody (ask 0x63 [(0x10, [1])]) = .bad 0x11
    ∧ checkBody (ask 0x63 [(0x12, [1])]) = .ok [{ id := 0x12, val := 1 }] := by decide +kernel

/-- Items of a GO that pass: list 1, then cue number 2. -/
theorem test_items_pass : ItemsPass (itemRow (ask 0x63 [(0x10, [1]), (0x11, [2, 0])]))
    (ask 0x63 [(0x10, [1]), (0x11, [2, 0])]).body [{ id := 0x10, val := 1 }, { id := 0x11, val := 2 }] :=
  .next [0x10, 1, 1] [{ id := 0x10, val := 1 }] 0x11 2 [2, 0] (two 0x11 1 999)
    (.next [] [] 0x10 1 [1] (one 0x10 1 16) .none rfl rfl rfl rfl (by decide) (fun h => by cases h))
    rfl rfl rfl rfl (by decide) (fun h => by cases h)

theorem test_item_and_relation_failures :
    ItemFails (itemRow (ask 0x63 [])) [] 0x1F [0] ∧ ItemFails (itemRow (ask 0x63 [])) [] 0x10 []
    ∧ ItemFails (itemRow (ask 0x63 [])) [] 0x11 [2, 5] ∧ ItemFails (itemRow (ask 0x63 [])) [] 0x10 [2, 1, 0]
    ∧ ItemFails (itemRow (ask 0x63 [])) [] 0x10 [1, 17]
    ∧ ItemFails (itemRow (ask 0x63 [])) [{ id := 0x10, val := 1 }] 0x10 [1, 1]
    ∧ ItemFails (itemRow (ask 0x60 [])) [{ id := 0x12, val := 259 }] 0x12 [3, 3, 2, 0]
    ∧ RelationFails 0x50 [{ id := 0x12, val := 0 }, { id := 0x11, val := 0 }] 0x11
    ∧ PairFails .light [{ id := 0x2D, val := 5 }, { id := 0x2C, val := 5 }] 0x2C
    ∧ PairFails .fog [{ id := 0x28, val := 500 }, { id := 0x29, val := 500 }] 0x29
    ∧ PairFails .plant [{ id := 0x61, val := 499 }, { id := 0x5F, val := 500 }] 0x5F :=
  ⟨.unknown _ rfl, .noLength, .cutOff 2 [5] (by decide), .length (one 0x10 1 16) 2 [1, 0] rfl (by decide),
    .range (one 0x10 1 16) 1 [17] [] rfl rfl rfl, .count (one 0x10 1 16) [1, 1] rfl (by decide),
    .key { id := 0x12, len := 3, signed := false, range := .entry, most := 24, distinct := true } 3 [3, 2, 0] [] 259
      rfl rfl rfl (by decide) rfl,
    .target 0 0 rfl rfl rfl (by decide),
    .pair 0x2D 0x2C _ 5 5 (.tail _ (.head _)) rfl rfl rfl,
    .pair 0x28 0x29 _ 500 500 (List.mem_append_left _ (List.mem_append_right _ (.head _))) rfl rfl rfl,
    .pair 0x5F 0x61 _ 500 499 (List.mem_append_right _ (.tail _ (.head _))) rfl rfl rfl⟩

theorem test_identify :
    after .identify (asking { base with tick := 0x01020304 } (ask 0x01 []))
      (fun t => (lastReply t.link).map Reply.body
        == some [0, 0x10, 2, 0x3C, 0x5C, 0x11, 1, 3, 0x12, 1, 0, 0x13, 4, 4, 3, 2, 1]) = true
    ∧ after .identify (asking base (ask 0x01 [(0x55, [1])]))
      (fun t => lastReply t.link == some (replyTo (ask 0x01 []) (badField 0x55))) = true := by decide +kernel

theorem test_status_read_clears :
    takes .statusRead (asking base (ask 0x02 [(0x10, [1])])) (ask 0x02 [(0x10, [1])]) [{ id := 0x10, val := 1 }] = true
    ∧ takes .statusRead (asking base (ask 0x02 [])) (ask 0x02 []) [] = true
    ∧ after .statusRead (asking { base with link.noticesLost := true, link.faults.gap := 4 } (ask 0x02 [(0x10, [1])]))
      (fun t => !t.link.noticesLost && t.link.faults.gap == 0) = true := by decide +kernel

theorem test_notices_and_fetch :
    let s := (base.post .heatShortfall 3 60 2).post .fogBlind 0 2 1
    let full := { base with link.notices := List.replicate 32 (note base .fogBlind 0 2 1) }
    full.link.notices.length = 32 ∧ (full.post .softIce 0 1 2).link.noticesLost = true
    ∧ takes .noticeFetch (asking s (ask 0x03 [(0x10, [1])])) (ask 0x03 [(0x10, [1])]) [{ id := 0x10, val := 1 }] = true
    ∧ after .noticeFetch (asking s (ask 0x03 [(0x10, [1])]))
      (fun t => t.link.notices == [note base .fogBlind 0 2 1] && attn t) = true
    ∧ after .noticeFetch (asking s (ask 0x03 [(0x10, [8])])) (fun t => t.link.notices == [] && !attn t) = true := by
  decide +kernel

theorem test_power_flag_and_restart :
    takes .powerFlagClear (asking base (ask 0x04 [])) (ask 0x04 []) [] = true
    ∧ after .powerFlagClear (asking base (ask 0x04 [])) (fun t => !t.ops.powerFlag) = true
    ∧ takes .restart (asking base (ask 0x05 [])) (ask 0x05 []) [] = true
    ∧ after .restart (asking base (ask 0x05 []))
      (fun t => t.link.dispatcher == .halted && (lastReply t.link).any Reply.restart && !canTake t) = true := by
  decide +kernel

theorem test_replies_keep_their_order :
    let one : Reply := { tag := 1, kind := 0x81, body := [0], restart := false }
    let two := { one with tag := 2 }
    let r := ask 0x07 []
    let new := replyTo r (plain .unknownKind)
    let asked := asking base r
    after .unknownKindRequest { asked with link.tx := some one, link.replies := [two], link.busyMark := some 9 }
      (fun t => t.link.tx == some one && t.link.replies == [two, new] && t.link.busyMark == some 9) = true
    ∧ after .unknownKindRequest { asked with link.replies := [one, two] }
      (fun t => t.link.tx == some one && t.link.replies == [two, new]) = true
    ∧ after .unknownKindRequest asked (fun t => t.link.tx == some new && t.link.replies == []) = true
    ∧ after .unknownKindRequest { asked with link.replies := [one], link.busyMark := some 9, link.overrun := true }
      (fun t => t.link.tx == some { tag := 9, kind := 0xFF, body := [11, 0x10, 1, 1], restart := false }
        && t.link.replies == [one, new] && t.link.busyMark == none && !t.link.overrun) = true := by decide +kernel

theorem test_reads_are_taken :
    takes .batchRead (asking base (ask 0x20 [(0x10, [1]), (0x11, [7]), (0x12, [1])]))
      (ask 0x20 [(0x10, [1]), (0x11, [7]), (0x12, [1])])
      [{ id := 0x10, val := 1 }, { id := 0x11, val := 7 }, { id := 0x12, val := 1 }] = true
    ∧ takes .cellRead (asking base (ask 0x31 [(0x10, [15])])) (ask 0x31 [(0x10, [15])]) [{ id := 0x10, val := 15 }] = true
    ∧ takes .plantRead (asking base (ask 0x42 [])) (ask 0x42 []) [] = true
    ∧ takes .loadTableRead (asking base (ask 0x43 [])) (ask 0x43 []) [] = true
    ∧ takes .heatTableRead (asking base (ask 0x53 [])) (ask 0x53 []) [] = true
    ∧ takes .zoneRead (asking base (ask 0x51 [(0x10, [8])])) (ask 0x51 [(0x10, [8])]) [{ id := 0x10, val := 8 }] = true
    ∧ takes .fogRead (asking base (ask 0x58 [])) (ask 0x58 []) [] = true
    ∧ takes .playbackRead (asking base (ask 0x67 [])) (ask 0x67 []) [] = true := by decide +kernel

theorem test_signed_figures_of_reads :
    (fogReadItems [] State.reset).take 2 = [(0x10, [0, 0xFF, 0xFF]), (0x11, [0xFF, 0xFF])]
    ∧ (fogReadItems [] { base with fgw.spread := some (-250) }).head? = some (0x10, [0, 0x06, 0xFF])
    ∧ (loadTableReadItems [] { base with ilt.crowd := 300, ilt.fogRaise := -1 }).take 7 =
      [(0x10, [0, 0]), (0x10, [0x2C, 1]), (0x10, [0, 0]), (0x10, [0, 0]), (0x10, [0, 0]), (0x10, [0xFF, 0xFF]),
       (0x11, [0, 0, 50])] := by decide +kernel

theorem test_cell_read_sends_one_item_per_member :
    let ids := (cellReadItems [{ id := 0x10, val := 3 }] base).map Prod.fst
    ((cellReadItems [{ id := 0x10, val := 3 }] { base with cnd.fi := base.cnd.fi.set 6 true }).filter fun x =>
        x.1 == 0x14) = (List.replicate 6 (0x14, [0])) ++ [(0x14, [1]), (0x14, [0])]
    ∧ ids.count 0x15 = 8 ∧ ids.count 0x16 = 14 := by decide +kernel

theorem test_batch_orders :
    (List.finRange 8).map (batchChannel 3 0) = [3, 4, 5, 6, 7, 0, 1, 2]
    ∧ (List.finRange 8).map (batchChannel 3 1) = [3, 2, 1, 0, 7, 6, 5, 4] := by decide +kernel

/-- A cue of list 2 for the tests: channels 0 and 23, fade 100, load 800. -/
def cue : CueRecord :=
  { list := 2, number := 5, entries := [(0, 1000), (23, 400)], fade := 100, post := 0, follow := none, load := 800,
    policy := .defer, e0 := some true, e2 := none, e3 := none }

theorem test_profiles_and_cues_read :
    let s := { base with evl.memory := [cue] }
    takes .profileRead (asking base (ask 0x11 [(0x01, [3])])) (ask 0x11 [(0x01, [3])]) [{ id := 0x01, val := 3 }] = true
    ∧ (slotOf base.ops .light).status ≠ .absent ∧ (slotOf State.reset.ops .light).status = .absent
    ∧ after .profileRead (asking State.reset (ask 0x11 [(0x01, [0])]))
      (fun t => lastReply t.link == some (replyTo (ask 0x11 []) (plain .notConfigured))) = true
    ∧ takes .cueRead (asking s (ask 0x61 [(0x10, [2]), (0x11, [5, 0])])) (ask 0x61 [(0x10, [2]), (0x11, [5, 0])])
      [{ id := 0x10, val := 2 }, { id := 0x11, val := 5 }] = true
    ∧ findCue s.evl.memory 2 5 = some cue ∧ findCue s.evl.memory 2 4 = none
    ∧ takes .cueRead (asking s (ask 0x61 [(0x10, [2])])) (ask 0x61 [(0x10, [2])]) [{ id := 0x10, val := 2 }] = true := by
  decide +kernel

/-! ### Operating states and profiles -/

/-- The bytes of a stored profile, as a PROFILE LOAD carries them. -/
def loadBody (p : ProfileKind) (given : List (Nat × Int)) : List (Nat × List Byte) :=
  (0x01, [BitVec.ofNat 8 (profileCode p)]) :: (profileItems p).map fun sp =>
    (sp.id, storedBytes sp (((given.find? fun x => x.1 == sp.id).map Prod.snd).getD (least sp.range)))

/-- The items of a PROFILE LOAD. -/
def loadItems (p : ProfileKind) (given : List (Nat × Int)) : List Item :=
  { id := 0x01, val := profileCode p } :: stored p given

theorem test_profile_load :
    let r := ask 0x10 (loadBody .light lightGiven)
    let s := asking base r
    takes .profileLoad s r (loadItems .light lightGiven) = true
    ∧ natOf (loadItems .light lightGiven) 0x01 = profileCode .light
    ∧ lacking .light (loadItems .light lightGiven) = none ∧ loadPermitted s .light = true
    ∧ after .profileLoad s (fun t => t.ops.light ==
        { status := .settling, items := stored .light lightGiven, settle := some 50 }
        && t.ops.spacing == some 20 && t.ops.part == .run) = true
    ∧ after .profileLoad { s with ops.spacing := some 0 }
      (fun t => lastReply t.link == some (replyTo r (plain .tooSoon)) && t.ops.spacing == some 0) = true
    ∧ after .profileLoad (asking State.reset r)
      (fun t => lastReply t.link == some (replyTo r (plain .wrongState))) = true := by decide +kernel

theorem test_profile_load_incomplete :
    let r := ask 0x10 [(0x01, [3]), (0x28, [8]), (0x10, [0])]
    takes .profileLoad (asking base r) r [{ id := 1, val := 3 }, { id := 0x28, val := 8 }, { id := 0x10, val := 0 }] = true
    ∧ after .profileLoad (asking base r) (fun t => lastReply t.link
        == some (replyTo r { outcome := .incomplete, items := [(0x10, [0x11])] })) = true := by decide +kernel

/-- A body with one of its items moved to the end. -/
def moved (id : Nat) (items : List (Nat × List Byte)) : List (Nat × List Byte) :=
  items.filter (fun x => x.1 != id) ++ items.filter (fun x => x.1 == id)

theorem test_schedules_name_the_warm_up_or_the_stale_limit :
    checkBody (ask 0x10 (loadBody .plant ((0x5C, 500) :: plantGiven))) = .bad 0x5C
    ∧ checkBody (ask 0x10 (loadBody .plant ((0x5D, 499) :: plantGiven))) = .bad 0x5D
    ∧ (match checkBody (ask 0x10 (loadBody .plant ((0x5D, 65535) :: plantGiven))) with
      | .ok _ => true | .bad _ => false) = true
    ∧ checkBody (ask 0x10 (loadBody .fog ((0x29, 500) :: fogGiven))) = .bad 0x29
    ∧ checkBody (ask 0x10 (loadBody .heat ((0x56, 499) :: heatGiven))) = .bad 0x56 := by decide +kernel

/-- With the period at the end of the body it is the later item (R12, R75, log 12). -/
theorem test_schedules_with_the_period_behind :
    checkBody (ask 0x10 (moved 0x5B (loadBody .plant ((0x5C, 500) :: plantGiven)))) = .bad 0x5B
    ∧ checkBody (ask 0x10 (moved 0x5F (loadBody .plant ((0x61, 499) :: plantGiven)))) = .bad 0x5F
    ∧ checkBody (ask 0x10 (moved 0x28 (loadBody .fog ((0x29, 500) :: fogGiven)))) = .bad 0x28
    ∧ checkBody (ask 0x10 (moved 0x54 (loadBody .heat ((0x56, 499) :: heatGiven)))) = .bad 0x54 := by decide +kernel

theorem test_threshold_limit_none_code_is_out_of_range :
    checkBody (ask 0x32 [(0x10, [7]), (0x11, [39]), (0x12, [0x00, 0x80]), (0x13, [0]), (0x14, [10, 0])]) = .bad 0x12 := by
  decide +kernel

theorem test_spacing :
    after .spacingExpiry { base with ops.spacing := some 0 } (fun t => t.ops.spacing == none) = true
    ∧ (passTick { base with ops.spacing := some 1 }).ops.spacing = some 0 := by decide +kernel

/-- A profile about to settle, before RUN, the others LOADED. -/
def settlingLast (p : ProfileKind) (given : List (Nat × Int)) : State :=
  let slot : ProfileSlot := { status := .settling, items := stored p given, settle := some 0 }
  { base with ops := setSlot { base.ops with part := .configuring } p slot }

theorem test_settle_end_configures :
    (slotOf (settlingLast .plant plantGiven).ops .plant).settle = some 0
    ∧ after (.settleEnd .plant) (settlingLast .plant (plantGiven ++ [(0x63, 1)]))
      (fun t => t.ops.part == .configured && t.plt.profile == some (plantOf (stored .plant plantGiven))
        && t.hat.rows[0].max == 300 && t.ilt.reserve == some 400 && (t.prb[0].schedule).isSome
        && natOf t.ops.plant.items 0x63 == 0) = true
    ∧ after (.settleEnd .fog) (settlingLast .fog fogGiven) (fun t => t.hat.rows[1].max == 500) = true
    ∧ after (.settleEnd .heat) (settlingLast .heat heatGiven)
      (fun t => t.hat.rows[9].max == 400 && t.hat.rows[10].max == 300) = true
    ∧ after (.settleEnd .light) (settlingLast .light lightGiven)
      (fun t => (lastNotice t).map Notice.kind == some .profileSettled) = true := by decide +kernel

theorem test_calibrate :
    let configured := { base with ops.part := .configured }
    let r := ask 0x12 [(0x10, [1]), (0x10, [3])]
    let given : List Item := [{ id := 0x10, val := 1 }, { id := 0x10, val := 3 }]
    takes .calibrate (asking configured (ask 0x12 [])) (ask 0x12 []) [] = true
    ∧ after .calibrate (asking configured (ask 0x12 []))
      (fun t => t.ops.part == .calibrating && t.ops.sweepList == allGroups && t.prb[0].state == .calibrating
        && t.prb[0].wake == some 10 && t.ops.warmUp == some 300) = true
    ∧ takes .calibrate (asking base r) r given = true
    ∧ valuesOf given 0x10 = [Group.b, Group.d].map (fun g => ((groupIdx g).val : Int))
    ∧ after .calibrate (asking base r) (fun t => t.ops.sweepList == [.b, .d] && t.prb[1].state == .calibrating) = true
    ∧ after .calibrate (asking { base with ops.sweepList := [.d] } r)
      (fun t => t.ops.sweepList == [.d, .b] && t.prb[1].state == .asleep) = true
    ∧ takes .calibrate (asking State.reset r) r given = true := by decide +kernel

/-- Group E at the second sample of its sweep step, the last of the list. -/
def sweeping (s : State) (list : List Group) : State :=
  setGroup { s with ops.sweepList := list, ops.sweptCount := 4, ops.failedCount := 1 } .e fun r =>
    { r with state := .calibrating, second := some 0, held := some (Vector.replicate 8 1000) }

theorem test_first_sweep_sample :
    let s := setGroup base .a fun r => { r with state := .calibrating, wake := some 0 }
    after (.firstSweepSample .a (Vector.replicate 8 500)) s
      (fun t => t.prb[0].second == some 1 && t.prb[0].held == some (Vector.replicate 8 500)) = true := by decide +kernel

theorem test_second_sweep_sample :
    after (.secondSweepSample .e ((Vector.replicate 8 1020).set 7 1021)) (sweeping base [.e])
      (fun t => (reading t .e 0) == { value := 1020, quality := .good, age := 0, mark := .passed }
        && (reading t .e 7) == { value := 1000, quality := .absent, age := 3, mark := .failed }
        && t.ops.sweepList == [] && lastNotice t == some (note base .calibrationDone 0 2 5)) = true
    ∧ after (.secondSweepSample .e (Vector.replicate 8 1000)) (sweeping base [.e, .b])
      (fun t => t.prb[1].state == .calibrating && t.ops.sweptCount == 5) = true
    ∧ after (.secondSweepSample .e (Vector.replicate 8 1000)) (sweeping { base with ops.part := .calibrating } [.e])
      (fun t => t.ops.part == .run && lastNotice t == some (note base .calibrationDone 0 1 5) && t.fgw.level == .fog
        && t.plt.mean == some 1000 && t.fgw.blind == none) = true
    ∧ after (.secondSweepSample .e (Vector.replicate 8 1000))
        (sweeping { base with ops.part := .calibrating, ops.warmUp := some 2 } [.e])
      (fun t => t.ops.part == .calibrating) = true := by decide +kernel

theorem test_warm_up_end :
    let s := { base with ops.part := .calibrating, ops.warmUp := some 0, ops.failedCount := 2 }
    after .warmUpExpiry s
      (fun t => t.ops.part == .run && t.ops.silence == some 1000 && t.plt.mean == some 1000
        && lastNotice t == some (note base .calibrationDone 0 2 5) && t.plt.brineOut == -900
        && t.fgw.spread == some 0 && t.fgw.level == .fog) = true
    ∧ after .warmUpExpiry { s with ops.sweepList := [.a] } (fun t => t.ops.part == .calibrating) = true := by
  decide +kernel

theorem test_host_silence_and_resume :
    let s := { base with ops.silence := some 0 }
    after .hostSilenceExpiry s
      (fun t => t.ops.part == .fallback && lastNotice t == some (note base .fallback 2 10 5)) = true
    ∧ after .hostSilenceExpiry { s with evl.memory := [cue] }
      (fun t => lastNotice t == some (note base .fallback 2 0 5) && t.evl.play == .fading
        && t.evl.fadeEnd == some 100) = true
    ∧ after .hostSilenceExpiry { s with ops.light.status := .settling }
      (fun t => lastNotice t == some (note base .fallback 2 7 5) && t.ops.fallbackWaiting) = true
    ∧ takes .resume (asking { base with ops.part := .fallback } (ask 0x06 [])) (ask 0x06 []) [] = true
    ∧ after .resume (asking { base with ops.part := .fallback } (ask 0x06 []))
      (fun t => t.ops.part == .run && t.ops.silence == some 1000) = true := by decide +kernel

theorem test_night_hold :
    let s := { base with evl.memory := [cue, { cue with list := 9 }], evl.want2 := true, evl.position := some (9, 5) }
    let night := { base with ops.part := .nightHold }
    takes .nightHoldEnter (asking s (ask 0x13 [])) (ask 0x13 []) [] = true
    ∧ nightPermitted s = true ∧ nightPermitted { s with plt.ice := .game } = false
    ∧ after .nightHoldEnter (asking s (ask 0x13 []))
      (fun t => t.ops.part == .nightHold && t.evl.memory == [cue] && !t.evl.want2 && t.evl.position == none
        && lastNotice t == some (note base .retentionPurge 0 1 1)) = true
    ∧ takes .nightHoldLeave (asking night (ask 0x14 [])) (ask 0x14 []) [] = true
    ∧ after .nightHoldLeave
        (asking (setGroup night .b fun r => { r with chans := r.chans.set 2 { r.chans[2] with age := 1501 } }) (ask 0x14 []))
      (fun t => t.ops.part == .run && (reading t .b 2).quality == .stale && (reading t .b 3).quality == .good) = true := by
  decide +kernel

theorem test_night_leave_is_one_event :
    let old (s : State) (g : Group) : State :=
      setGroup s g fun r => { r with chans := r.chans.set 1 { r.chans[1] with age := 2000 } }
    let night := old (old { base with ops.part := .nightHold } .c) .b
    after .nightHoldLeave (asking night (ask 0x14 []))
      (fun t => t.link.notices.take 2 == [note base .probeFault 9 1 0, note base .probeFault 17 1 0]
        && t.transit.heats.length ≤ 2) = true := by decide +kernel

/-- A profile about to settle in RUN, the group schedules as the profiles gave them. -/
def settlingInRun (p : ProfileKind) (given : List (Nat × Int)) : State :=
  let slot : ProfileSlot := { status := .settling, items := stored p given, settle := some 0 }
  { base with ops := setSlot base.ops p slot }

theorem test_settle_end_in_run :
    after (.settleEnd .plant) (settlingInRun .plant ((0x5E, 254) :: (0x63, 1) :: plantGiven))
      (fun t => reading t .a 0 == { value := 1000, quality := .absent, age := 3, mark := .uncal }
        && (reading t .a 1).quality == .good && t.ops.sweepList == [.a, .c] && t.prb[0].state == .calibrating
        && t.prb[0].wake == some 10 && t.ops.silence == some 1000
        && t.link.notices == [note base .profileSettled 0 0 0, note base .probeFault 0 3 0]) = true
    ∧ after (.settleEnd .light) { settlingInRun .light lightGiven with
        ops.fallbackWaiting := true, ops.part := .fallback, evl.memory := [cue] }
      (fun t => !t.ops.fallbackWaiting && t.evl.play == .fading
        && t.link.notices == [note base .profileSettled 3 0 0, note base .fallback 2 0 5]) = true := by decide +kernel

/-- A FOG settle end that worsens the level, with a supply posted: what is judged, the outputs once, the pass. -/
def settlingFog : State :=
  { settlingInRun .fog ((0x10, 450) :: fogGiven) with
    fgw.spread := some 430, fgw.layers := Vector.replicate 4 (some 430), hat.posted := true, hat.supply := 60 }

/-- A HEAT settle end that lowers a zone's stage count and the cap below what is on. -/
def settlingHeat : State :=
  { settlingInRun .heat ((0x48, 1) :: (0x50, 2) :: heatGiven) with
    sph.zones := Vector.ofFn fun z : Fin 8 =>
      if z.val < 2 then
        { base.sph.zones[z] with
          state := .preheat, target := some 1200, raw := 300, demand := 300, preheat := some 7,
          heaters := Vector.replicate 3 { on := true, minOn := some 9 } }
      else base.sph.zones[z],
    hat.posted := true }

theorem test_fog_and_heat_settle_ends_in_run :
    running settlingFog = true ∧ settlingFog.hat.posted = true
    ∧ after (.settleEnd .fog) settlingFog
      (fun t => t.fgw.level == .watch && t.fgw.dwell == none && t.transit.raises == []
        && t.transit.caps == [.fogCap 80] && t.transit.heats == [.fogWatch 80 2] && t.hat.used == 60 && t.hat.rejected == 60 && t.transit.zoneGrants.length == 1
        && t.transit.desiccants == [(0, .idle)]) = true
    ∧ after (.settleEnd .heat) settlingHeat
      (fun t => t.sph.zones[0].demand == 400 && t.transit.heats == [.zones [(0, 400), (1, 400)]]
        && t.sph.zones[0].preheat == some 7 && onCount t.sph.zones[0].heaters == 1 && onCount t.sph.zones[1].heaters == 1
        && t.sph.zones[1].heaters[0].minOn == some 9 && t.sph.stands == standsFigure t && t.transit.loads.length == 1
        && t.transit.desiccants.length == 1) = true := by decide +kernel

theorem test_plant_settle_end_updates_the_groups :
    after (.settleEnd .plant) { settlingInRun .plant ((0x5E, 3) :: plantGiven) with plt.ice := .game, plt.mean := some 1000 }
      (fun t => t.plt.mean == none && t.plt.softWatch == none) = true
    ∧ after (.settleEnd .plant) { settlingInRun .plant ((0x5E, 7) :: plantGiven) with plt.ice := .game }
      (fun t => t.plt.mean == some 1000 && t.plt.softWatch == some 100) = true
    ∧ after (.settleEnd .plant) (setGroup { settlingInRun .plant ((0x58, 1) :: plantGiven) with ops.part := .nightHold } .b
        fun r => { r with chans := r.chans.set 0 { r.chans[0] with age := 2000 } })
      (fun t => (reading t .b 0).quality == .stale && t.fgw.layers[0] == none && t.fgw.layers[1] == some 0) = true := by
  decide +kernel

theorem test_boost_active_at_run_is_held_back :
    let s := { base with
      ops.part := .calibrating, ops.warmUp := some 0, cnd.gates := base.cnd.gates.set 5 { binding := none, level := true } }
    after .warmUpExpiry s
      (fun t => t.plt.boostHeld && boost t == 0 && boost { t with plt.boostHeld := false } == 500
        && t.transit.heats.contains (.plant (some 0) (some 0))) = true := by decide +kernel

/-! ### Probe scanner -/

theorem test_group_wakes :
    let s := setGroup base .b fun r => { r with period := some 0 }
    let sub := setGroup base .b fun r => { r with state := .substituted, period := none, subLimit := some 0 }
    let r := ask 0x22 [(0x10, [1])]
    after (.periodExpiry .b) s
      (fun t => t.prb[1].state == .waking && t.prb[1].period == some 500 && t.prb[1].wake == some 10) = true
    ∧ after (.periodExpiry .b) (setGroup s .b fun r => { r with state := .waking, wake := some 4 })
      (fun t => t.prb[1].period == some 500 && t.prb[1].wake == some 4) = true
    ∧ after (.substitutionLimitExpiry .b) sub (fun t => t.prb[1].state == .waking && t.prb[1].subLimit == none) = true
    ∧ takes .substituteEnd (asking sub r) r [{ id := 0x10, val := 1 }] = true
    ∧ after .substituteEnd (asking sub r) (fun t => t.prb[1].state == .waking) = true
    ∧ after .substituteEnd (asking base r)
      (fun t => lastReply t.link == some (replyTo r (plain .wrongState))) = true := by decide +kernel

theorem test_night_scales_period_and_stale_limit :
    let night := { base with ops.part := .nightHold }
    effectivePeriod base .b = 500 ∧ effectivePeriod night .b = 1000 ∧ effectiveWarmUp night .b = 10
    ∧ effectiveStale night .b = some 3000 ∧ enabled night .b 7 = true
    ∧ effectiveStale (setGroup night .b fun r => { r with schedule := some { everyChannel with stale := 40000 } }) .b
      = some 65535 := by decide +kernel

theorem test_group_sample :
    let s := setGroup base .e fun r => { r with
      state := .waking, wake := some 0, chans := r.chans.set 7 { r.chans[7] with mark := .failed } }
    effectiveStale base .e = some 1500
    ∧ after (.groupSample .e ((Vector.replicate 8 4001).set 1 4000)) s
      (fun t => t.prb[4].state == .asleep
        && reading t .e 0 == { value := 4001, quality := .good, age := 0, mark := .passed }
        && reading t .e 1 == { value := 4000, quality := .good, age := 0, mark := .passed }
        && reading t .e 2 == { value := 1000, quality := .range, age := 3, mark := .passed }
        && (reading t .e 7).quality == .absent) = true := by decide +kernel

theorem test_record_stale :
    let s := setGroup base .d fun r => { r with
      chans := (r.chans.set 0 { r.chans[0] with age := 1500 }).set 1 { r.chans[1] with age := 1501 } }
    after (.recordStale .d) s
      (fun t => (reading t .d 0).quality == .good && (reading t .d 1).quality == .stale
        && lastNotice t == some (note base .probeFault 25 1 0)) = true := by decide +kernel

/-- A group about to be sampled. -/
def waking (s : State) (g : Group) : State := setGroup s g fun r => { r with state := .waking, wake := some 0 }

theorem test_group_updates :
    let recover := { base with plt.ice := .recover, plt.prior := some .game }
    let game := { base with plt.ice := .game }
    let preheat := { base with sph.zones := upd base.sph.zones 3 fun z => { z with state := .preheat, target := some 2050 } }
    let th : Threshold :=
      { items := some { channel := 16, limit := 300, direction := .above, hysteresis := 10 }, active := false }
    after (.groupSample .a (Vector.replicate 8 (-500))) (waking recover .a)
      (fun t => t.plt.ice == .game && t.plt.mean == some (-500)
        && lastNotice t == some (note base .iceState 0 2 5)) = true
    ∧ after (.groupSample .a (Vector.replicate 8 (-449))) (waking game .a)
      (fun t => t.plt.softWatch == some 100 && t.plt.ice == .game) = true
    ∧ after (.groupSample .b ((Vector.replicate 8 300).set 0 550)) (waking base .b)
      (fun t => t.fgw.spread == some 0 && t.fgw.level == .fog && t.fgw.layers[0] == some 250
        && !t.fgw.haze && t.fgw.starve == some 90) = true
    ∧ after (.groupSample .c (Vector.replicate 8 4000))
        (waking { base with plt.supply := 7, cnd.thresholds := base.cnd.thresholds.set 4 th } .c)
      (fun t => t.plt.derate == 75 && t.cnd.thresholds[4].active && t.transit.heats == [.plant (some 0) none]) = true
    ∧ after (.groupSample .d (Vector.replicate 8 2000)) (waking preheat .d)
      (fun t => t.sph.zones[3].state == .occupied && t.sph.zones[3].demand == 50
        && t.transit.heats == [.zones [(3, 50)]]) = true := by decide +kernel

def substituteBody : List (Nat × List Byte) :=
  (0x10, [4]) :: List.replicate 8 (0x11, [0xA0, 0x0F]) ++ [(0x12, [0x60, 0xEA])]

def substituteGiven : List Item :=
  { id := 0x10, val := 4 } :: List.replicate 8 { id := 0x11, val := 4000 } ++ [{ id := 0x12, val := 60000 }]

/-- The SUBSTITUTE of the tests. -/
def substituteAsk : Request := ask 0x21 substituteBody

theorem test_substitute :
    takes .substitute (asking base substituteAsk) substituteAsk substituteGiven = true
    ∧ natOf substituteGiven 0x10 = (groupIdx .e).val
    ∧ after .substitute (asking base substituteAsk)
      (fun t => t.prb[4].state == .substituted && t.prb[4].subLimit == some 60000
        && reading t .e 5 == { value := 4000, quality := .substituted, age := 0, mark := .passed }) = true
    ∧ after .substitute (asking { base with plt.ice := .game } substituteAsk)
      (fun t => lastReply t.link == some (replyTo substituteAsk (plain .wrongState))) = true
    ∧ after .substitute (asking { base with ops.sweepList := [.e] } substituteAsk)
      (fun t => lastReply t.link == some (replyTo substituteAsk (plain .wrongState))) = true
    ∧ checkBody (ask 0x21 ((0x10, [4]) :: (List.replicate 7 (0x11, [0xA1, 0x0F]) ++ [(0x12, [1, 0])]))) = .bad 0x11 := by
  decide +kernel

/-! ### Condition array -/

def counting : State :=
  { base with
    cnd.baseDue := true, tick := 100, cnd.divider := 99,
    cnd.settings := some { entryDebounce := 2, exitDebounce := 1, surgeCount := 2, surgeWindow := 50 },
    cnd.entryPhase := .rising 1, cnd.occupancy := 30000, cnd.surge := [51, 50, 99] }

theorem test_base_tick_counts :
    after (.baseTick (Vector.replicate 8 true) true true) counting
      (fun t => t.cnd.occupancy == 29999 && t.cnd.surge == [51, 99, 100] && t.cnd.crowdSurge && t.cnd.divider == 0
        && t.cnd.entryPhase == .held && t.cnd.exitPhase == .held && t.cnd.fi == Vector.replicate 8 true
        && t.transit.loads == [.occupancy 29999] && !t.cnd.baseDue) = true := by decide +kernel

/-- The base with a cell set to a mode and some of its fields. -/
def withCell (k : Fin 16) (f : Cell → Cell) : State :=
  { base with cnd.baseDue := true, cnd.cells := upd base.cnd.cells k f }

theorem test_base_tick_latches_gates :
    let s := withCell 3 fun c => { c with config := .table 1 1 1 128#8, out := true, seen0 := true, seen1 := true, seen2 := true }
    after (.baseTick (Vector.replicate 8 false) false false)
        { s with cnd.gates := (s.cnd.gates.set 2 { binding := some 3, level := false }).set 1 { binding := some 3, level := false } }
      (fun t => t.cnd.gates[2].level && t.evl.hazeInhibit && t.fgw.fogSeen && t.fgw.level == .fog && !t.evl.strobeInhibit)
      = true := by decide +kernel

/-- The base at a base tick whose latch raises some gates and lowers others: all of them bound to cells 0 and 1. -/
def latching (s : State) (rising falling : List (Fin 14)) : State :=
  let up : Cell := { Cell.reset with config := .table 1 1 1 128#8, out := true, seen0 := true, seen1 := true, seen2 := true }
  let gates := Vector.ofFn fun g : Fin 14 =>
    if rising.contains g then { binding := some 0, level := false }
    else if falling.contains g then { binding := some 1, level := true }
    else s.cnd.gates[g]
  { s with cnd.baseDue := true, cnd.gates := gates, cnd.cells := s.cnd.cells.set 0 up }

theorem test_gates_act :
    let tick : Instr := .baseTick (Vector.replicate 8 false) false false
    let zones := { base with
      plt.ice := .game, plt.boostHeld := true, evl.pulse := some 2,
      plt.stages := Vector.replicate 6 { Stage.reset with ticks := 100 },
      sph.zones := (upd (upd base.sph.zones 2 fun z =>
        { z with state := .setback, demand := 9, heaters := z.heaters.set 0 { on := true, minOn := some 3 } }) 5 fun z =>
          { z with state := .inhibited, remembered := some .preheat, target := some 1100 }) }
    after tick (latching zones [0, 3, 5, 8] [11])
      (fun t => t.plt.ice == .resurface && t.plt.prior == some .game && !t.plt.boostHeld && t.evl.pulse == none
        && t.plt.stages[0].state == .starting && t.sph.zones[2].state == .inhibited
        && t.sph.zones[2].remembered == some .setback && onCount t.sph.zones[2].heaters == 0
        && t.sph.zones[5].state == .preheat && t.sph.zones[5].preheat == some 200
        && t.transit.heats == [.zones [(2, 0), (5, 400)]]) = true
    ∧ after tick (latching { base with fgw.fogSeen := true, fgw.level := .fog, fgw.haze := false, fgw.spread := some 200 }
        [4] [1])
      (fun t => t.fgw.level == .fog && t.fgw.dwell == some 100 && t.fgw.doorOpen && t.fgw.fan == 3) = true
    ∧ after tick (latching base [1] [])
      (fun t => t.fgw.level == .fog && !t.fgw.haze && t.fgw.dwell == none
        && t.transit.raises == [150] && t.transit.caps == [.fogCap 0]) = true
    ∧ after tick (latching base [1, 4] [])
      (fun t => t.fgw.level == .fog && t.fgw.doorOpen && t.transit.raises == [150] && t.transit.caps == [.fogCap 0]
        && t.transit.heats.length == 1) = true
    ∧ after tick (latching { base with plt.ice := .resurface, plt.prior := some .game } [] [0])
      (fun t => t.plt.ice == .recover && t.plt.recover == some 60000 && t.plt.recoverTicks == 0) = true := by decide +kernel

theorem test_latch_takes_the_outputs_of_steps_one_and_two :
    let cells := upd base.cnd.cells 4 fun c => { c with config := .table 2 0 0 2#8 }
    let cells := upd cells 3 fun c => { c with config := .edge 22 .base .rise }
    let cells := upd cells 2 fun c => { c with config := .oneshot 1 1 .base .rise, phase := .pulse, out := true, tickView := true, seen0 := true }
    after (.baseTick (Vector.replicate 8 true) false false) { base with cnd.baseDue := true, cnd.cells := cells }
      (fun t => t.cnd.cells[4].tickView && t.cnd.cells[4].out && !t.cnd.cells[2].tickView && !t.cnd.cells[3].tickView
        && t.cnd.cells[3].out && t.cnd.cells[3].phase == .pulse) = true := by decide +kernel

theorem test_cell_evaluation :
    let delay : Cell := { Cell.reset with config := .delay 1 3 .base .rise }
    let pulse : Cell := { Cell.reset with config := .oneshot 1 2 .base .fall }
    let rate : Cell := { Cell.reset with config := .rate 1 2 .base .both }
    let count : Cell := { Cell.reset with config := .count 2 3 2 .base, n := 1 }
    (evalCell false true false true { Cell.reset with config := .table 2 3 4 0x20#8 }).1.out = true
    ∧ evalCell false true false false delay = ({ delay with phase := .pending true, seen0 := true }, false)
    ∧ evalCell true true false false { delay with phase := .pending true, n := 1, seen0 := true }
      = ({ delay with phase := .pending true, n := 2, seen0 := true }, false)
    ∧ evalCell true false false false { delay with phase := .pending true, n := 1, seen0 := true } = (delay, false)
    ∧ evalCell false false false false { delay with out := true, seen0 := true } = (delay, false)
    ∧ evalCell true false false false delay = (delay, false)
    ∧ evalCell false false false false { pulse with seen0 := true } = ({ pulse with out := true, phase := .pulse }, false)
    ∧ evalCell false true false false { pulse with out := true, phase := .pulse, n := 1 }
      = ({ pulse with out := true, phase := .pulse, n := 1, seen0 := true }, false)
    ∧ evalCell false true false false rate = ({ rate with phase := .open, seen0 := true }, false)
    ∧ evalCell true false false false { rate with phase := .open, seen0 := true }
      = ({ rate with out := true, phase := .open }, false)
    ∧ evalCell true true false false { rate with phase := .open, n := 1, seen0 := true }
      = ({ rate with seen0 := true }, false)
    ∧ evalCell true true false false { rate with out := true, phase := .open, n := 1, seen0 := true }
      = ({ rate with seen0 := true }, true)
    ∧ evalCell true false true false count = ({ count with out := true, n := 0, seen1 := true }, true)
    ∧ evalCell true false false false { count with out := true, seen1 := true } = ({ count with n := 0 }, false)
    ∧ evalCell true false false false { count with out := true, seen2 := true } = (count, false)
    ∧ evalCell true false false false { count with n := 0, out := true } = (count, false) := by decide +kernel

theorem test_cell_completions :
    after (.delayComplete 0) (withCell 0 fun c => { c with config := .delay 1 3 .base .both, phase := .pending true, n := 2, seen0 := true })
      (fun t => t.cnd.cells[0].out && t.cnd.cells[0].phase == .idle && t.cnd.cells[0].n == 0 && t.cnd.clocksTaken) = true
    ∧ after (.delayComplete 0) (withCell 0 fun c => { c with config := .delay 0 3 .base .rise, phase := .pending true, n := 2, seen0 := true })
      (fun t => !t.cnd.cells[0].out && t.cnd.cells[0].phase == .idle) = true
    ∧ after (.oneshotPulseEnd 15) (withCell 15 fun c => { c with config := .oneshot 1 1 .base .rise, phase := .pulse, out := true, seen0 := true })
      (fun t => !t.cnd.cells[15].out && t.cnd.cells[15].phase == .idle) = true
    ∧ after (.rateWindowClose 1) (withCell 1 fun c => { c with config := .rate 1 5 .base .rise, phase := .open, n := 4, out := true, seen0 := true })
      (fun t => !t.cnd.cells[1].out && t.cnd.cells[1].phase == .idle) = true
    ∧ after (.edgePulseEnd 1) (withCell 1 fun c => { c with config := .edge 1 .base .rise, phase := .pulse, out := true })
      (fun t => t.cnd.cells[1].out && t.cnd.cells[1].phase == .pulse) = true
    ∧ after (.countTerminal 2) (withCell 2 fun c => { c with config := .count 0 0 3 .base, n := 2 })
      (fun t => t.cnd.cells[2].out && t.cnd.cells[2].n == 0) = true
    ∧ after (.countTerminal 2) { withCell 2 (fun c => { c with config := .count 0 0 3 .second, n := 2 }) with cnd.divider := 99 }
      (fun t => t.cnd.cells[2].out && t.cnd.divider == 0) = true := by decide +kernel

/-- A pulse that ends, a COUNT cell chained to it, and a DELAY cell above that its end triggers. -/
def chained : State :=
  let cells := upd base.cnd.cells 2 fun c =>
    { c with config := .oneshot 1 1 .base .rise, phase := .pulse, out := true, tickView := true, seen0 := true }
  let cells := upd cells 3 fun c => { c with config := .count 0 0 1 .chain }
  let cells := upd cells 5 fun c => { c with config := .delay 20 3 .base .both, seen0 := true, out := true }
  { base with cnd.baseDue := true, cnd.cells := cells }

theorem test_completion_is_step_one :
    after (.countTerminal 3) chained
      (fun t => t.cnd.cells[3].out && !t.cnd.cells[2].out && t.cnd.cells[5].phase == .pending false
        && t.cnd.cells[5].n == 0 && t.cnd.divider == 1) = true
    ∧ (after (.oneshotPulseEnd 2) chained fun t =>
        after (.baseTick (Vector.replicate 8 false) false false) t fun u =>
          after (.baseTick (Vector.replicate 8 false) false false) chained fun v => u == v) = true
    ∧ chainsInto chained 3 = true ∧ clockPending { chained with cnd.clocksTaken := true } 2 = false := by decide +kernel

theorem test_cell_set :
    let table := ask 0x30 [(0x10, [1]), (0x11, [1]), (0x12, [1]), (0x13, [0]), (0x14, [18]), (0x15, [0x02])]
    let delay := ask 0x30 [(0x10, [0]), (0x11, [2]), (0x12, [1]), (0x16, [5, 0]), (0x17, [0]), (0x18, [0])]
    let count := ask 0x30 [(0x10, [15]), (0x11, [6]), (0x13, [0]), (0x14, [0]), (0x16, [5, 0]), (0x17, [2])]
    let clear := ask 0x30 [(0x10, [3]), (0x11, [0])]
    after .cellSet (asking base table) (fun t => t.cnd.cells[1].out && t.cnd.cells[1].config == .table 1 0 18 2#8) = true
    ∧ after .cellSet (asking base delay)
      (fun t => !t.cnd.cells[0].out && t.cnd.cells[0].phase == .idle && t.cnd.cells[0].seen0) = true
    ∧ takes .cellSet (asking base clear) clear [{ id := 0x10, val := 3 }, { id := 0x11, val := 0 }] = true
    ∧ after .cellSet (asking base count) (fun t => t.cnd.cells[15].config == .count 0 0 5 .chain) = true
    ∧ checkBody (ask 0x30 [(0x10, [1]), (0x11, [1]), (0x12, [19]), (0x13, [0]), (0x14, [0]), (0x15, [0])]) = .bad 0x12 := by
  decide +kernel

theorem test_threshold_gate_counter_occupancy :
    let set := ask 0x32 [(0x10, [7]), (0x11, [39]), (0x12, [0xE7, 0x03]), (0x13, [0]), (0x14, [10, 0])]
    let unset := ask 0x32 [(0x10, [7])]
    let bind := ask 0x33 [(0x10, [13]), (0x11, [15])]
    let counter := ask 0x34 [(0x10, [50]), (0x11, [1]), (0x12, [1, 0]), (0x13, [1, 0])]
    let occupy := ask 0x35 [(0x10, [0x30, 0x75])]
    after .thresholdSet (asking base set)
      (fun t => t.cnd.thresholds[7].active && sourceLevel t 17
        && lastReply t.link == some (replyTo set (doneWith [(0x10, [1])]))) = true
    ∧ takes .thresholdSet (asking base unset) unset [{ id := 0x10, val := 7 }] = true
    ∧ takes .gateBind (asking base bind) bind [{ id := 0x10, val := 13 }, { id := 0x11, val := 15 }] = true
    ∧ after .gateBind (asking base bind) (fun t => t.cnd.gates[13].binding == some 15) = true
    ∧ takes .counterSet (asking base counter) counter
      [{ id := 0x10, val := 50 }, { id := 0x11, val := 1 }, { id := 0x12, val := 1 }, { id := 0x13, val := 1 }] = true
    ∧ after .counterSet (asking { base with cnd.entryLevel := true } counter)
      (fun t => t.cnd.entryPhase == .held && t.cnd.exitPhase == .low) = true
    ∧ takes .occupancySet (asking base occupy) occupy [{ id := 0x10, val := 30000 }] = true
    ∧ after .occupancySet (asking base occupy)
      (fun t => t.cnd.occupancy == 30000 && t.transit.loads == [.occupancy 30000]) = true := by decide +kernel

/-! ### Ice plant -/

theorem test_ice_mode :
    let game := ask 0x40 [(0x10, [2])]
    let soft := setGroup base .a fun r => { r with state := .substituted }
    takes .iceMode (asking base game) game [{ id := 0x10, val := 2 }] = true
    ∧ after .iceMode (asking { base with fgw.fogSeen := false, plt.request := 300 } game)
      (fun t => t.plt.ice == .game && t.plt.prior == none && t.plt.applied == 200 && t.plt.brineOut == -700
        && lastNotice t == some (note base .iceState 0 2 0)
        && lastReply t.link == some (replyTo game (doneWith [(0x10, [2]), (0x11, [0])]))) = true
    ∧ after .iceMode (asking soft game) (fun t => lastReply t.link == some (replyTo game (plain .wrongState))) = true
    ∧ after .iceMode (asking { base with plt.ice := .covered } game)
      (fun t => lastReply t.link == some (replyTo game (plain .wrongState))) = true := by decide +kernel

theorem test_soft_ice_and_returns :
    let s := { base with plt.ice := .game, plt.softWatch := some 0, plt.mean := some (-420) }
    after .softWatchExpiry s
      (fun t => t.plt.ice == .soft && t.plt.prior == some .game && lastNotice t == some (note base .softIce 0 (-420) (-500))
        && t.link.notices == [note base .iceState 0 6 2, note base .softIce 0 (-420) (-500)]
        && t.transit.caps == [.soft true]) = true
    ∧ after .softClearExpiry { base with plt.ice := .soft, plt.prior := some .practice, plt.softClear := some 0 }
      (fun t => t.plt.ice == .practice && t.plt.prior == none && lastNotice t == some (note base .iceState 0 1 6)) = true
    ∧ after .recoverLimitExpiry { base with plt.ice := .recover, plt.prior := some .game, plt.recover := some 0 }
      (fun t => t.plt.ice == .game && t.plt.recover == none) = true := by decide +kernel

theorem test_recover_second_and_raise :
    let s := { base with plt.ice := .recover, plt.prior := some .game, plt.recoverTicks := 15000, plt.secondDue := true }
    after .recoverSecond s (fun t => t.transit.loads
      == [.plant { PlantUpdate.empty with resurface := some 675 }]) = true
    ∧ after .raiseRequest { base with transit.raises := [150, 0] }
      (fun t => t.plt.applied == 150 && t.transit.raises == [0] && t.plt.brineOut == -750
        && t.transit.loads == [.plant { PlantUpdate.empty with fogRaise := some (-225) }]) = true
    ∧ running State.reset = false := by decide +kernel

/-- The base with its stages in given states, each some ticks old. -/
def staged (states : Vector StageState 6) (ticks : Nat) : State :=
  { base with plt.stages := Vector.ofFn fun n : Fin 6 => { Stage.reset with state := states[n], ticks := ticks } }

theorem test_stage_inputs :
    let s := { staged #v[.starting, .running, .off, .stopping, .lockedOut, .running] 60 with plt.confirmDue := true }
    after (.confirmRead #v[true, false, true, true, true, true]) s
      (fun t => t.plt.stages[0].state == .running && t.plt.stages[1].state == .lockedOut
        && t.plt.stages[1].cause == .confirmLost && t.plt.stages[4].state == .lockedOut && !t.plt.confirmDue
        && t.plt.supply == 1200 && t.transit.heats.contains (.plant (some 1200) none)
        && t.transit.loads == [.plant { PlantUpdate.empty with capacity := some 2000 }]
        && t.link.notices == [note base .stageLockout 2 2 2]) = true
    ∧ after (.startLimitExpiry 0) { s with plt.stages := upd s.plt.stages 0 fun st => { st with startTimer := some 0 } }
      (fun t => t.plt.stages[0].cause == .noConfirm && lastNotice t == some (note base .stageLockout 1 1 1)) = true
    ∧ after (.stopTimeExpiry 3) { s with plt.stages := upd s.plt.stages 3 fun st => { st with stopTimer := some 0 } }
      (fun t => t.plt.stages[3].state == .off && t.plt.stages[3].ticks == 0) = true := by decide +kernel

theorem test_confirmed_stage_without_minimum_run_may_stop :
    let p := { plantOf (stored .plant plantGiven) with
      stages := Vector.replicate 6 { (plantValues base).stages[0] with minRun := 0 } }
    let s := { staged #v[.running, .off, .off, .off, .off, .starting] 120 with
      plt.profile := some p, plt.confirmDue := true }
    after (.confirmRead (Vector.replicate 6 true)) s
      (fun t => t.plt.stages[5].state == .stopping && t.plt.stages[5].stopTimer == some 40 && (decideOnce t).isNone) = true
    ∧ after (.confirmRead (Vector.replicate 6 true)) { s with ilt.total := 1001 }
      (fun t => t.plt.stages[5].state == .running && t.plt.stages[1].state == .starting && (decideOnce t).isNone) = true
    ∧ after (.confirmRead #v[true, true, true, true, true, false]) s
      (fun t => t.plt.stages[5].state == .starting) = true := by
  decide +kernel

theorem test_stage_lock :
    let lock := ask 0x41 [(0x10, [6]), (0x11, [0])]
    let unlock := ask 0x41 [(0x10, [6]), (0x11, [1])]
    let locked := staged #v[.off, .off, .off, .off, .off, .lockedOut] 20
    takes .stageLockLock (asking base lock) lock [{ id := 0x10, val := 6 }, { id := 0x11, val := 0 }] = true
    ∧ after .stageLockLock (asking base lock)
      (fun t => t.plt.stages[5].cause == .host && lastNotice t == some (note base .stageLockout 6 3 0)
        && t.transit.loads == [.plant { PlantUpdate.empty with capacity := some 2500 }]) = true
    ∧ after .stageLockLock (asking locked lock) (fun t => t.plt.stages[5].cause == .none) = true
    ∧ takes .stageLockUnlock (asking locked unlock) unlock [{ id := 0x10, val := 6 }, { id := 0x11, val := 1 }] = true
    ∧ after .stageLockUnlock (asking locked unlock)
      (fun t => t.plt.stages[5].state == .off && t.transit.loads
        == [.plant { PlantUpdate.empty with capacity := some 3000 }]) = true
    ∧ after .stageLockUnlock (asking base unlock)
      (fun t => lastReply t.link == some (replyTo unlock (plain .wrongState))) = true := by decide +kernel

/-- One kW more is required than the running stage gives, and a table update waits. -/
def cold : State :=
  { staged #v[.running, .off, .off, .off, .off, .lockedOut] 100 with ilt.total := 501, transit.tableUpdates := 1 }

/-- Two stages run where one and the stop hysteresis would do, and a table update waits. -/
def warm : State :=
  { staged #v[.running, .running, .off, .off, .off, .off] 100 with ilt.total := 400, transit.tableUpdates := 1 }

theorem test_stage_decision :
    let young := { cold with plt.stages := upd cold.plt.stages 1 fun st => { st with ticks := 99 } }
    after .tableUpdate cold (fun t => t.plt.stages[1].state == .starting && (decideOnce t).isNone && runLine t 1) = true
    ∧ after .tableUpdate young (fun t => t.plt.stages[2].state == .starting) = true
    ∧ after .tableUpdate warm (fun t => t.plt.stages[1].state == .stopping && t.plt.stages[0].state == .running) = true
    ∧ after .tableUpdate { warm with ilt.total := 401 } (fun t => t.plt.stages[1].state == .running) = true
    ∧ after (.minimumPassed 1)
        { cold with plt.stages := upd cold.plt.stages 1 fun st => { st with minDue := true } }
      (fun t => t.plt.stages[1].state == .starting && !t.plt.stages[1].minDue) = true := by decide +kernel

theorem test_stage_decision_premises :
    Starts cold 1 ∧ Stops warm 1 ∧ NothingToDecide { warm with ilt.total := 401 }
    ∧ NothingToDecide { cold with plt.stages := upd cold.plt.stages 5 fun st => { st with state := .starting } } := by
  refine ⟨?_, ?_, fun n => ⟨?_, ?_⟩, fun n => ⟨?_, ?_⟩⟩
  · unfold Starts OffPast; decide +kernel
  · unfold Stops RunPast; decide +kernel
  · exact fun h => absurd h.1 (by decide +kernel)
  · unfold Stops RunPast; revert n; decide +kernel
  · exact fun h => absurd (h.2.1 5) (by decide +kernel)
  · unfold Stops RunPast; revert n; decide +kernel

theorem test_decision_waits_for_run :
    after .tableUpdate { cold with ops.part := .calibrating }
      (fun t => t == { cold with ops.part := .calibrating, transit.tableUpdates := 0 }) = true := by decide +kernel

/-! ### Ice load table -/

theorem test_first_load_update_is_judged :
    let s := { base with
      ilt.live := false, ilt.posted := 900,
      transit.loads := [.plant { PlantUpdate.empty with base := some 1000, capacity := some 1800 }] }
    after (.loadTablePosting .plant) s
      (fun t => t.ilt.live && t.ilt.overBudget && t.ilt.total == 1900
        && lastNotice t == some (note base .overBudget 0 1900 1400) && t.transit.caps == [.overBudget true]) = true := by
  decide +kernel

theorem test_load_posting :
    let s := { base with transit.loads := [.stands 80, .lighting 700, .lighting 3] }
    after (.loadTablePosting .lighting) s
      (fun t => t.transit.loads == [.stands 80, .lighting 3] && t.ilt.lighting == 350 && t.ilt.total == 350
        && t.ilt.admission == 2600 && t.transit.tableUpdates == 1 && t.transit.tableChanges == 1) = true
    ∧ after (.loadTablePosting .plant)
        { base with transit.loads := [.plant { PlantUpdate.empty with base := some 900, fogRaise := some (-1200) }] }
      (fun t => t.ilt.rawSum == -300 && t.ilt.total == 0) = true
    ∧ after (.loadTablePosting .conditionArray) { base with ilt.live := false, transit.loads := [.occupancy 2000] }
      (fun t => t.ilt.occupancy == 2000 && t.ilt.crowd == 0 && t.transit.tableUpdates == 0) = true
    ∧ after (.loadTablePosting .stands) { base with ilt.live := false, transit.loads := [.stands 80] }
      (fun t => t.ilt.posted == 80 && t.ilt.stands == 0
        && after (.loadTablePosting .plant) { t with transit.loads := [.plant PlantUpdate.empty] }
          fun u => u.ilt.stands == 80 && u.ilt.total == 80) = true := by decide +kernel

theorem test_over_budget :
    let s := { base with transit.loads := [.stands 2601] }
    after (.loadTablePosting .stands) s
      (fun t => t.ilt.overBudget && lastNotice t == some (note base .overBudget 0 2601 2600)
        && t.transit.caps == [.overBudget true]) = true
    ∧ after (.loadTablePosting .stands) { s with ilt.hold := some 1 } (fun t => !t.ilt.overBudget) = true
    ∧ after (.loadTablePosting .stands) { s with ilt.overBudget := true, transit.loads := [.stands 2550] }
      (fun t => t.ilt.dwell == some 100) = true
    ∧ after (.loadTablePosting .stands)
        { s with ilt.overBudget := true, ilt.dwell := some 5, transit.loads := [.stands 2551] }
      (fun t => t.ilt.dwell == none) = true
    ∧ after .exitDwellExpiry { base with ilt.overBudget := true, ilt.dwell := some 0 }
      (fun t => !t.ilt.overBudget && t.ilt.hold == some 1) = true
    ∧ after .clearHoldExpiry { base with ilt.hold := some 0, ilt.total := 2601 } (fun t => t.ilt.overBudget) = true
    ∧ after .clearHoldExpiry { base with ilt.hold := some 0, ilt.total := 2600 } (fun t => !t.ilt.overBudget) = true := by
  decide +kernel

theorem test_admission_and_trim :
    let t := { base.ilt with rawSum := 1000, lighting := 100, admission := 1200 }
    (t.test 600).projected = 1200 ∧ (t.test 600).admitted = true ∧ (t.test 602).admitted = false
    ∧ bestFraction t 700 1000 = 858 ∧ (t.test (scaledLoad 700 858)).admitted = true := by decide +kernel

/-! ### Heat allocation -/

/-- The base with demands in its rows and a supply posted before. -/
def heated (demands : Vector Nat 11) : State :=
  { base with
    hat.posted := true,
    hat.rows := Vector.ofFn fun r : Fin 11 =>
      { base.hat.rows[r] with max := 500, posted := demands[r], demand := demands[r] } }

theorem test_heat_pass :
    let s := { heated #v[50, 0, 100, 100, 100, 0, 0, 0, 0, 0, 60] with
      transit.heats := [.fogWatch 20 1, .plant (some 250) none] }
    after (.heatTablePosting .plant) s
      (fun t => (List.finRange 11).map (fun r => t.hat.rows[r].grant) == [50, 0, 67, 67, 66, 0, 0, 0, 0, 0, 0]
        && t.hat.rejected == 0 && t.hat.rows[10].state == .starved && t.hat.heatShort && t.hat.rows[2].valve == 13
        && lastNotice t == some (note base .heatShortfall 10 60 4) && t.transit.heats == [.fogWatch 20 1]) = true
    ∧ after (.heatTablePosting .fogWatch) s
      (fun t => t.hat.rows[1].cls == 1 && t.hat.rows[1].demand == 20 && t.hat.used == 0) = true
    ∧ after (.heatTablePosting .stands)
        { base with transit.heats := [.zones [(7, 90)]], hat.rows := upd base.hat.rows 9 fun row => { row with max := 60 } }
      (fun t => t.hat.rows[9].demand == 60 && t.hat.rows[9].posted == 90 && t.transit.zoneGrants == []) = true
    ∧ after (.heatTablePosting .stands) { heated (Vector.replicate 11 0) with transit.heats := [.zones [(2, 7), (0, 5)]] }
      (fun t => t.hat.rows[2].demand == 5 && t.hat.rows[4].demand == 7
        && t.link.notices == [note base .heatShortfall 2 5 2, note base .heatShortfall 4 7 2]) = true := by
  decide +kernel

theorem test_heat_accounts :
    let s := heated (Vector.replicate 11 0)
    (sumOver 11 fun r => s.hat.rows[r].grant) + s.hat.rejected = s.hat.used
    ∧ (∀ r : Fin 11, s.hat.rows[r].grant ≤ s.hat.rows[r].demand) ∧ (∀ r : Fin 11, s.hat.rows[r].cls ≤ 4)
    ∧ (s.hat.posted = false → s.hat.used = 0) ∧ s.transit.heats = [] := by decide +kernel

theorem test_melt_demand :
    let r := ask 0x52 [(0x10, [0xFF, 0xFF])]
    let s := asking { heated (Vector.replicate 11 0) with hat.supply := 300 } r
    takes .meltDemand s r [{ id := 0x10, val := 65535 }] = true
    ∧ after .meltDemand s (fun t => t.hat.rows[10].demand == 500 && t.hat.rows[10].grant == 300
        && t.hat.rows[10].state == .partial_ && t.hat.rejectValve == 0) = true := by decide +kernel

/-! ### Spectator heating -/

theorem test_zone_set :
    let off := ask 0x50 [(0x10, [8]), (0x11, [0])]
    let occupied := ask 0x50 [(0x10, [1]), (0x11, [2]), (0x12, [0x4D, 0x04])]
    let setback := ask 0x50 [(0x10, [8]), (0x11, [3])]
    let inhibited := { base with sph.zones := upd base.sph.zones 7 fun z => { z with state := .inhibited } }
    takes .zoneSetOff (asking base off) off [{ id := 0x10, val := 8 }, { id := 0x11, val := 0 }] = true
    ∧ takes .zoneSetSetback (asking base setback) setback [{ id := 0x10, val := 8 }, { id := 0x11, val := 3 }] = true
    ∧ takes .zoneSetOccupied (asking base occupied) occupied
      [{ id := 0x10, val := 1 }, { id := 0x11, val := 2 }, { id := 0x12, val := 1101 }] = true
    ∧ after .zoneSetOccupied (asking base occupied)
      (fun t => t.sph.zones[0].state == .preheat && t.sph.zones[0].demand == 400 && t.sph.zones[0].preheat == some 200
        && t.transit.heats == [.zones [(0, 400)]]) = true
    ∧ after .zoneSetSetback (asking inhibited setback)
      (fun t => t.sph.zones[7].state == .inhibited && t.sph.zones[7].remembered == some .setback) = true
    ∧ after .zoneSetSetback (asking { base with cnd.gates := base.cnd.gates.set 13 { binding := none, level := true } } setback)
      (fun t => t.sph.zones[7].state == .inhibited && t.sph.zones[7].remembered == some .setback
        && t.sph.zones[7].preheat == none) = true
    ∧ after .zoneSetOff (asking inhibited off) (fun t => t.sph.zones[7].remembered == some .off) = true
    ∧ after .zoneSetOff (asking { base with ops.part := .nightHold } off)
      (fun t => lastReply t.link == some (replyTo off (plain .wrongState))) = true := by decide +kernel

/-- Two zones short of heat, under a cap of 4 stages of 50 kW. -/
def short : State :=
  { base with sph.zones := Vector.ofFn fun z : Fin 8 =>
      if z.val < 2 then { Zone.reset with state := .occupied, target := some 1000, demand := 300 - 100 * z.val }
      else Zone.reset }

theorem test_zone_hand_out :
    let grants := (Vector.replicate 8 (0, RowState.idle)).set 0 (200, .partial_)
    after .zoneGrantHandback { short with transit.zoneGrants := [grants] }
      (fun t => onCount t.sph.zones[0].heaters == 1 && onCount t.sph.zones[1].heaters == 3
        && t.sph.zones[1].heaters[0].minOn == some 30 && electricCount t == 4 && t.sph.stands == 40
        && t.transit.loads == [.stands 40]) = true
    ∧ after (.minimumOnExpiry 0 2)
        { short with sph.zones := upd short.sph.zones 0 fun z =>
            { z with demand := 0, heaters := z.heaters.set 2 { on := true, minOn := some 0 } } }
      (fun t => onCount t.sph.zones[0].heaters == 0 && onCount t.sph.zones[1].heaters == 3) = true
    ∧ after (.preheatLimitExpiry 1)
        { short with sph.zones := upd short.sph.zones 1 fun z => { z with state := .preheat, preheat := some 0 } }
      (fun t => t.sph.zones[1].state == .occupied && t.sph.zones[1].demand == 0
        && t.transit.heats == [.zones [(1, 0)]]) = true := by decide +kernel

theorem test_near_ice_cap :
    let s := { short with sph.zones := upd short.sph.zones 0 fun z => { z with target := some 1200 } }
    after (.nearIceCapInput .loadTable) { s with transit.caps := [.soft true, .overBudget true] }
      (fun t => t.sph.overBudget && t.transit.caps == [.soft true] && t.sph.zones[0].raw == 200
        && t.sph.zones[0].demand == 100 && t.sph.zones[1].demand == 200) = true
    ∧ after (.nearIceCapInput .plant) { s with transit.caps := [.soft true, .overBudget true] }
      (fun t => t.sph.zones[0].demand == 0) = true
    ∧ after (.nearIceCapInput .fogWatch) { State.reset with transit.caps := [.fogCap 40] }
      (fun t => t.sph.fogCap == 40) = true := by decide +kernel

/-! ### Fog watch -/

theorem test_fog_timers :
    let s := { base with fgw.level := .fog, fgw.haze := false, fgw.spread := some 300 }
    after .descendDwellExpiry { s with fgw.dwell := some 0 }
      (fun t => t.fgw.level == .alert && !t.fgw.haze && t.fgw.dwell == some 100 && t.fgw.fan == 2
        && lastNotice t == some (note base .fogLevel 0 2 3)) = true
    ∧ after .fogBlindExpiry { base with fgw.blind := some 0 }
      (fun t => t.fgw.level == .alert && lastNotice t == some (note base .fogBlind 0 2 0)) = true
    ∧ after .fogBlindExpiry { s with fgw.blind := some 0 }
      (fun t => t.fgw.level == .fog && lastNotice t == some (note base .fogBlind 0 3 3)) = true
    ∧ after .starveExpiry { s with fgw.starve := some 0 }
      (fun t => t.fgw.secondary && t.fgw.postedRaise == 300 && t.transit.raises == [300]
        && t.transit.caps == [.fogCap 0, .secondary true]) = true := by decide +kernel

theorem test_desiccant_handback :
    let s := { base with fgw.level := .alert, fgw.haze := false, transit.desiccants := [(50, .partial_), (9, .idle)] }
    after .desiccantHandback s
      (fun t => t.fgw.grant == 50 && t.fgw.row == .partial_ && t.fgw.weak && t.fgw.starve == some 90
        && t.transit.desiccants == [(9, .idle)]) = true
    ∧ after .desiccantHandback { s with fgw.secondary := true, fgw.profile := none, transit.desiccants := [(50, .satisfied)] }
      (fun t => !t.fgw.weak && !t.fgw.secondary && t.fgw.starve == none) = true := by decide +kernel

/-! ### Event lighting -/

def cueBody : List (Nat × List Byte) :=
  [(0x10, [2]), (0x11, [5, 0]), (0x12, [0, 0xE8, 0x03]), (0x12, [23, 0x90, 0x01]), (0x13, [100, 0]), (0x14, [0, 0]),
   (0x16, [0x20, 0x03]), (0x17, [0]), (0x18, [1])]

def cueGiven : List Item :=
  [{ id := 0x10, val := 2 }, { id := 0x11, val := 5 }, { id := 0x12, val := 256000 }, { id := 0x12, val := 102423 },
   { id := 0x13, val := 100 }, { id := 0x14, val := 0 }, { id := 0x16, val := 800 }, { id := 0x17, val := 0 },
   { id := 0x18, val := 1 }]

theorem test_cue_store :
    let r := ask 0x60 cueBody
    let many := { base with evl.memory := (List.range 64).map fun n => { cue with number := n + 10 } }
    takes .cueStore (asking base r) r cueGiven = true ∧ cueOf cueGiven = cue
    ∧ after .cueStore (asking base r) (fun t => t.link.dispatcher == .storing 7 cue 2 && t.link.tx == none) = true
    ∧ after .cueStore (asking many r) (fun t => lastReply t.link == some (replyTo r (plain .noSpace))) = true
    ∧ after .cueStoreComplete { base with evl.memory := [{ cue with load := 1 }], link.dispatcher := .storing 7 cue 0 }
      (fun t => t.evl.memory == [cue] && t.link.dispatcher == .free
        && lastReply t.link == some (replyTo r (doneWith [(0x10, [1]), (0x11, [1]), (0x12, [255])]))) = true := by
  decide +kernel

theorem test_list_erase :
    let r := ask 0x62 [(0x10, [2])]
    let s := { base with
      evl.memory := [{ cue with list := 1 }, cue], evl.posted := [{ list := 2, number := 5, left := 9 }],
      evl.deferred := some { list := 2, number := 5, left := 4, spent := 1 }, evl.position := some (2, 5),
      evl.follow := some 3 }
    takes .listErase (asking s r) r [{ id := 0x10, val := 2 }] = true
    ∧ after .listErase (asking s r) (fun t => t.link.dispatcher == .erasing 7 2 1) = true
    ∧ after .listEraseComplete { s with link.dispatcher := .erasing 7 2 0 }
      (fun t => t.evl.memory == [{ cue with list := 1 }] && t.evl.posted == [] && t.evl.deferred == none
        && t.evl.position == none && t.evl.follow == none
        && t.link.notices == [note base .cueDropped 2 5 3, note base .cueDropped 2 5 3]
        && lastReply t.link == some (replyTo r (doneWith [(0x10, [1]), (0x11, [1]), (0x12, [1])]))) = true := by
  decide +kernel

/-- The base with the test cue stored, under a policy, and an admission capacity. -/
def cued (policy : CuePolicy) (admission : Int) : State :=
  { base with evl.memory := [{ cue with policy := policy }], ilt.admission := admission }

def goBody : List (Nat × List Byte) := [(0x10, [2]), (0x11, [5, 0])]

def goGiven : List Item := [{ id := 0x10, val := 2 }, { id := 0x11, val := 5 }]

theorem test_go_cue :
    let r := ask 0x63 goBody
    let later := ask 0x63 (goBody ++ [(0x13, [0x70, 0x17])])
    let four := List.replicate 4 { list := 1, number := 1, left := 6001 : PostedCue }
    takes .goCue (asking (cued .defer 400) r) r goGiven = true
    ∧ takes .goCue (asking (cued .defer 400) later) later (goGiven ++ [{ id := 0x13, val := 6000 }]) = true
    ∧ after .goCue (asking (cued .defer 400) r)
      (fun t => t.evl.play == .fading && t.evl.fadeEnd == some 100 && t.evl.want0 && t.evl.lightLoad == 800
        && t.evl.dimmers[23].fade == some { start := 0, goal := 400, elapsed := 0, duration := 100 }
        && !t.evl.dimmers[1].driven && t.transit.loads == [.lighting 800]) = true
    ∧ after .goCue (asking (cued .defer 399) r)
      (fun t => t.evl.deferred == some { list := 2, number := 5, left := 300, spent := 0 } && t.evl.play == .idle) = true
    ∧ after .goCue (asking (cued .force 399) r) (fun t => t.evl.lightLoad == 800) = true
    ∧ after .goCue (asking (cued .trim 300) r)
      (fun t => t.evl.lightLoad == 601 && lastNotice t == some (note base .cueTrimmed 2 5 751)) = true
    ∧ after .goCue (asking (cued .defer 400) later)
      (fun t => t.evl.posted == [{ list := 2, number := 5, left := 6000 }]) = true
    ∧ after .goCue (asking { cued .defer 400 with evl.posted := four } later)
      (fun t => lastReply t.link == some (replyTo r (plain .noSpace))) = true
    ∧ after .goCue (asking base r) (fun t => lastReply t.link == some (replyTo r (plain .notFound))) = true := by
  decide +kernel

theorem test_cues_that_chain :
    let first := { cue with number := 5, fade := 0, follow := some 0, load := 10, policy := CuePolicy.force }
    let second := { cue with number := 6, load := 20 }
    let other : DeferredCue := { list := 1, number := 9, left := 5, spent := 0 }
    let r := ask 0x63 goBody
    let s := { base with evl.memory := [first, second], evl.deferred := some other }
    Chains first ∧ OneEach first ∧ ¬Chains second
    ∧ after .goCue (asking s r)
      (fun t => t.evl.position == some (2, 6) && t.evl.play == .fading && t.evl.dimmers[0].working == 1000
        && t.evl.deferred == none && t.link.notices == [note base .cueDropped 1 9 0] && t.evl.lightLoad == 20) = true
    ∧ after .goCue (asking { s with evl.memory := [{ first with follow := some 7 }] } r)
      (fun t => t.evl.play == .waiting && t.evl.follow == some 7 && t.evl.dimmers[23].working == 400
        && t.evl.lightLoad == 10 && t.transit.loads == [.lighting 10]) = true := by
  refine ⟨⟨by decide, by decide⟩, by unfold OneEach; decide, by unfold Chains; decide, by decide +kernel, by decide +kernel⟩

theorem test_go_next :
    let r := ask 0x63 [(0x12, [1])]
    let s := { cued .defer 400 with evl.position := some (2, 4) }
    takes .goNext (asking s r) r [{ id := 0x12, val := 1 }] = true
    ∧ after .goNext (asking s r) (fun t => t.evl.position == some (2, 5) && t.evl.play == .fading) = true
    ∧ after .goNext (asking { s with evl.position := some (2, 5) } r)
      (fun t => lastReply t.link == some (replyTo r (plain .notFound))) = true := by decide +kernel

theorem test_queued_cues :
    let s := cued .defer 400
    let tight := cued .defer 399
    let entry : PostedCue := { list := 2, number := 5, left := 0 }
    let slot : DeferredCue := { list := 2, number := 5, left := 20, spent := 280 }
    after .postedCueDue { s with evl.posted := [entry, { entry with left := 1 }] }
      (fun t => t.evl.play == .fading && t.evl.posted == [{ entry with left := 1 }]) = true
    ∧ after .postedCueDue { tight with evl.posted := [entry, { entry with number := 6 }, entry] }
      (fun t => t.evl.posted == [] && t.link.notices ==
        [note base .cueDeferred 2 5 800, note base .cueDropped 2 5 0, note base .cueDeferred 2 5 800]) = true
    ∧ after .postedCueDue { base with evl.posted := [entry] } (fun t => t.evl.posted == [] && t.evl.play == .idle) = true
    ∧ after .postedCueDue { tight with evl.posted := [entry] }
      (fun t => t.evl.deferred.isSome && lastNotice t == some (note base .cueDeferred 2 5 800)) = true
    ∧ after .tableChangeRetry { s with evl.deferred := some slot, transit.tableChanges := 2 }
      (fun t => t.evl.deferred == none && t.evl.play == .fading && t.transit.tableChanges == 1
        && lastNotice t == some (note base .cueLateStart 2 5 280)) = true
    ∧ after .tableChangeRetry { tight with evl.deferred := some slot, transit.tableChanges := 1 }
      (fun t => t.evl.deferred == some slot) = true
    ∧ after .deferExpiry { s with evl.deferred := some { slot with left := 0 } }
      (fun t => t.evl.deferred == none && lastNotice t == some (note base .cueDropped 2 5 1)) = true := by decide +kernel

theorem test_fade_levels :
    fadeLevel { start := 200, goal := 1000, elapsed := 1, duration := 3 } = 466
    ∧ fadeLevel { start := 200, goal := 0, elapsed := 1, duration := 4 } = 150 := by decide +kernel

theorem test_fades_and_follows :
    let dimmer (elapsed : Nat) : Dimmer :=
      { driven := true, working := 200, applied := 150, cls := none,
        fade := some { start := 200, goal := 1000, elapsed := elapsed, duration := 3 } }
    let fading (elapsed : Nat) : State := { base with evl.dimmers := base.evl.dimmers.set 23 (dimmer elapsed) }
    let recent : RecentCue := { list := 2, number := 4, load := 700, follow := some 60 }
    let ended := { cued .defer 400 with
      evl.fadeEnd := some 0, evl.recent := some recent, evl.position := some (2, 4), evl.lightLoad := 700 }
    let follow := { ended with evl.fadeEnd := none, evl.follow := some 0 }
    (passTick (fading 0)).evl.dimmers[23].working = 466
    ∧ (passTick (fading 2)).evl.dimmers[23].working = 1000 ∧ (passTick (fading 2)).evl.dimmers[23].fade.isSome = true
    ∧ after (.channelFadeEnd 23) (fading 3)
      (fun t => t.evl.dimmers[23].working == 1000 && t.evl.dimmers[23].fade == none) = true
    ∧ after (.channelPeriodBoundary 23) (fading 0)
      (fun t => t.evl.dimmers[23].applied == 200 && t.evl.dimmers[23].cls == some 0) = true
    ∧ after .fadeEndExpiry ended (fun t => t.evl.play == .waiting && t.evl.follow == some 60 && t.transit.loads == []) = true
    ∧ after .fadeEndExpiry { ended with evl.dimmers := (fading 3).evl.dimmers }
      (fun t => t.evl.dimmers[23].working == 1000 && t.evl.dimmers[23].fade == none) = true
    ∧ after .fadeEndExpiry { ended with evl.recent := some { recent with follow := some 0 } }
      (fun t => t.evl.position == some (2, 5) && t.evl.play == .fading) = true
    ∧ after .fadeEndExpiry { ended with evl.position := none, evl.lightLoad := 900 }
      (fun t => t.evl.follow == none && t.evl.lightLoad == 700 && t.transit.loads == [.lighting 700]) = true
    ∧ after .followExpiry follow (fun t => t.evl.position == some (2, 5) && t.evl.play == .fading) = true
    ∧ after .followExpiry { follow with evl.memory := [{ cue with post := 8 }] }
      (fun t => t.evl.posted == [{ list := 2, number := 5, left := 8 }]) = true
    ∧ after .followExpiry
        { follow with evl.memory := [{ cue with post := 8 }],
                      evl.posted := List.replicate 4 { list := 1, number := 1, left := 2 } }
      (fun t => lastNotice t == some (note base .cueDropped 2 5 4)) = true
    ∧ after .followExpiry { follow with evl.position := some (2, 5) } (fun t => t.evl.follow == none) = true := by
  decide +kernel

theorem test_release :
    let r (time : Byte) := ask 0x64 [(0x10, [time, 0])]
    let s := { base with
      evl.lightLoad := 600, evl.position := some (2, 5), evl.posted := [{ list := 1, number := 1, left := 2 }],
      evl.dimmers := base.evl.dimmers.set 0 { driven := true, working := 900, applied := 900, fade := none, cls := none } }
    takes .release (asking s (r 0)) (r 0) [{ id := 0x10, val := 0 }] = true
    ∧ takes .release (asking s (r 9)) (r 9) [{ id := 0x10, val := 9 }] = true
    ∧ after .release (asking s (r 9))
      (fun t => t.evl.play == .releasing && t.evl.releaseTimer == some 9 && t.evl.lightLoad == 600 && t.evl.posted == []
        && t.link.notices == [note base .cueDropped 1 1 2]
        && t.evl.dimmers[0].fade == some { start := 900, goal := 0, elapsed := 0, duration := 9 }
        && lastReply t.link == some (replyTo (r 9) (doneWith [(0x10, [1]), (0x11, [0])]))) = true
    ∧ after .release (asking s (r 0))
      (fun t => t.evl.play == .idle && t.evl.position == none && t.evl.lightLoad == 0 && t.evl.dimmers[0].working == 0) = true
    ∧ after .releaseTimerExpiry { s with evl.releaseTimer := some 0 }
      (fun t => t.evl.play == .idle && t.transit.loads == [.lighting 0]) = true := by decide +kernel

theorem test_effects_and_strobe :
    let r := ask 0x65 [(0x10, [1])]
    let flash := ask 0x66 []
    takes .effectSet (asking base r) r [{ id := 0x10, val := 1 }] = true
    ∧ after .effectSet (asking base r) (fun t => lineE0 t && lastReply t.link == some (replyTo r (doneWith
        [(0x10, [1]), (0x10, [0]), (0x10, [0]), (0x11, [1]), (0x11, [0]), (0x11, [0]), (0x11, [0])]))) = true
    ∧ after .effectSet (asking { base with fgw.haze := false } r) (fun t => t.evl.want0 && !lineE0 t) = true
    ∧ after .effectSet (asking { base with ops.part := .nightHold } r)
      (fun t => lastReply t.link == some (replyTo r (plain .wrongState))) = true
    ∧ takes .strobe (asking base flash) flash [] = true
    ∧ after .strobe (asking { base with evl.sinceFlash := some 20 } flash)
      (fun t => t.evl.pulse == some 3 && t.evl.sinceFlash == some 0 && lineE1 t) = true
    ∧ after .strobe (asking { base with evl.sinceFlash := some 19 } flash)
      (fun t => t.evl.pulse == none && lastNotice t == some (note base .strobeLimit 0 0 19)) = true
    ∧ after .strobe (asking { base with evl.strobeInhibit := true } flash)
      (fun t => lastNotice t == some (note base .strobeLimit 0 1 65535)) = true
    ∧ after .strobePulseExpiry { base with evl.pulse := some 0 } (fun t => !lineE1 t) = true := by decide +kernel

/-! ### States that meet the premises that are properties -/

theorem test_load_permitted : LoadPermitted base .light ∧ ¬LoadPermitted State.reset .fog := by
  refine ⟨⟨?_, ?_⟩, fun h => ?_⟩
  · intro g; cases g <;> decide +kernel
  · exact ⟨by decide +kernel, by decide +kernel, by decide +kernel⟩
  · exact h .plant (by decide) (by decide +kernel)

theorem test_night_premises : QuietJob base .light ∧ (∀ p, settling base p = false) ∧ base.plt.ice = .hold := by
  refine ⟨⟨by decide +kernel, by decide +kernel, by decide +kernel⟩, ?_, by decide +kernel⟩
  intro p; cases p <;> decide +kernel

theorem test_ice_move_premises :
    IceMove base.plt.ice .game ∧ ¬IceMove base.plt.ice .resurface ∧ ∀ g, base.prb[groupIdx g].state ≠ .substituted := by
  refine ⟨trivial, id, ?_⟩
  intro g; cases g <;> decide +kernel

theorem test_cue_premises : OneEach cue ∧ ¬Chains cue ∧ CueMemoryFits (cued .defer 400) := by
  refine ⟨by unfold OneEach; decide, by unfold Chains; decide, List.pairwise_singleton _ _, by decide +kernel, ?_, ?_⟩
  · intro list
    exact Nat.le_trans (List.length_filter_le _ _) (by decide +kernel)
  · intro tag c left h; cases h

theorem test_named_cues :
    NamedBy .goCue (cued .defer 400) goGiven { cue with policy := .defer }
    ∧ NextCue { cued .defer 400 with evl.position := some (2, 4) } cue
    ∧ NamesNone .goCue base goGiven ∧ NoNextCue base := by
  refine ⟨Or.inl ⟨rfl, by decide +kernel⟩, ⟨2, 4, rfl, by decide +kernel, rfl, by decide, ?_⟩,
    Or.inl ⟨rfl, by decide +kernel⟩, ?_⟩
  · intro d hd _ _
    have : d = { cue with policy := .defer } := by simpa [cued] using hd
    subst this; decide
  · intro list number h; cases h

/-- The state of the heat test before its pass. -/
def beforePass : State :=
  { heated #v[50, 0, 100, 100, 100, 0, 0, 0, 0, 0, 60] with transit.heats := [.fogWatch 20 1, .plant (some 250) none] }

theorem test_heat_premises : HeatAccounted beforePass := by
  refine ⟨by decide +kernel, by decide +kernel, by decide +kernel, by decide +kernel, ?_⟩
  intro demand cls h
  simp only [beforePass, List.mem_cons, HeatPosting.fogWatch.injEq, reduceCtorEq, List.not_mem_nil, or_false] at h
  omega

theorem test_settle_premises : HeatAccounted settlingFog ∧ HeatAccounted settlingHeat := by
  refine ⟨⟨by decide +kernel, by decide +kernel, by decide +kernel, by decide +kernel, ?_⟩,
    by decide +kernel, by decide +kernel, by decide +kernel, by decide +kernel, ?_⟩ <;> (intro demand cls h; cases h)

theorem test_invariants_hold_in_run :
    QueuesFit base ∧ PriorStateRule base ∧ OneStarting base ∧ HazeFollowsLevel base ∧ HeatAccounted base
    ∧ ElectricWithinCap base ∧ SubstitutionExcludesPlay base ∧ step base = .next (passTick base) := by
  refine ⟨⟨by decide +kernel, by decide +kernel, by decide +kernel, ?_, ?_, by decide +kernel⟩,
    by unfold PriorStateRule; decide +kernel, by unfold OneStarting; decide +kernel,
    by unfold HazeFollowsLevel; decide +kernel,
    ⟨by decide +kernel, by decide +kernel, by decide +kernel, by decide +kernel, ?_⟩,
    by unfold ElectricWithinCap; decide +kernel, ?_, ?_⟩
  · intro tag c left h; cases h
  · intro tag list left h; cases h
  · intro demand cls h; cases h
  · intro h; exact absurd h (by decide +kernel)
  · have h : due base = false := by decide +kernel
    simp [step, idle, h, show base.pending = [] from rfl]

end Sys2Proof.Tests
end

