-- ==== Sys2Proof/Proofs/IdleTick.lean ====
section
/-! The idle step: what one tick makes of each block, and the tick as a whole (R1, log 1, log 23). -/

namespace Sys2Proof.Machine

open Sys2Proof

/-! ### Where a tick acts on a slot or on an entry of a table -/

theorem counted_tickTimer (t : Timer) : Counted t (tickTimer t) := rfl

@[simp] theorem passTick_slot (s : State) (p : ProfileKind) :
    slotOf (passTick s).ops p = tickSlot (slotOf s.ops p) := by
  cases p <;> rfl

@[simp] theorem passTick_group (s : State) (g : Group) :
    (passTick s).prb[groupIdx g] = tickGroup s.prb[groupIdx g] := tabMap_get tickGroup s.prb (groupIdx g)

/-- A record at a tick keeps all but its age (R37). -/
theorem reading_passTick (s : State) (g : Group) (k : Fin 8) :
    reading (passTick s) g k = { reading s g k with age := min 65535 ((reading s g k).age + 1) } := by
  unfold reading
  rw [passTick_group]
  exact tabMap_get tickChannel s.prb[groupIdx g].chans k

@[simp] theorem passTick_stage (s : State) (n : Fin 6) :
    (passTick s).plt.stages[n] = tickStage (running s) (stageValues s n) s.plt.stages[n] := by
  simp [passTick, tickPlt, stageValues]

@[simp] theorem passTick_zone (s : State) (z : Fin 8) :
    (passTick s).sph.zones[z] = tickZone s.sph.zones[z] := tabMap_get tickZone s.sph.zones z

@[simp] theorem tickZone_heater (x : Zone) (n : Fin 3) :
    (tickZone x).heaters[n] = tickHeater x.heaters[n] := tabMap_get tickHeater x.heaters n

@[simp] theorem passTick_dimmer (s : State) (ch : Fin 24) :
    (passTick s).evl.dimmers[ch] = tickDimmer s.evl.dimmers[ch] := tabMap_get tickDimmer s.evl.dimmers ch

/-! ### The entries that do more than count a timer -/

/-- The minimum that a stage waits out is the minimum off in OFF, the minimum run in RUNNING, and none in any other
state (R91). -/
theorem minimumOf_eq_some_iff (v : StageSettings) (x : StageState) (ticks : Nat) :
    minimumOf v x = some ticks ↔ (x = .off ∧ ticks = v.minOff) ∨ (x = .running ∧ ticks = v.minRun) := by
  cases x <;> simp [minimumOf, eq_comm]

/-- Ticks in state that still grow, grow by one (R88). -/
theorem lt_grown_iff (ticks : Nat) : ticks < min 60000 (ticks + 1) ↔ ticks < 60000 := by omega

/-- The passing of a stage's minimum becomes due at the tick that ends it while the jobs run, and stays due (R91). -/
theorem tickStage_minDue_iff (runs : Bool) (v : StageSettings) (st : Stage) :
    (tickStage runs v st).minDue = true ↔ st.minDue = true ∨ (runs = true ∧ st.ticks < 60000
      ∧ ((st.state = .off ∧ st.ticks + 1 = v.minOff) ∨ (st.state = .running ∧ st.ticks + 1 = v.minRun))) := by
  have grown : st.ticks < 60000 → min 60000 (st.ticks + 1) = st.ticks + 1 := by omega
  simp only [tickStage, Bool.or_eq_true, Bool.and_eq_true, decide_eq_true_eq, beq_iff_eq, lt_grown_iff,
    minimumOf_eq_some_iff, and_assoc]
  refine or_congr_right (and_congr_right fun _ => and_congr_right fun below => ?_)
  rw [grown below]

theorem recoverSecondEnds_iff (p : Plt) (limit : Nat) :
    recoverSecondEnds p limit = true ↔
      p.ice = .recover ∧ p.recoverTicks + 1 < limit ∧ (p.recoverTicks + 1) % 100 = 0 := by
  simp [recoverSecondEnds, and_assoc]

/-- A channel without a fade stands at a tick. -/
theorem tickDimmer_of_fade_none {d : Dimmer} (h : d.fade = none) : tickDimmer d = d := by
  simp [tickDimmer, h]

/-- A channel with a fade counts one elapsed tick, no more than its duration, and takes the level there (R156). -/
theorem tickDimmer_of_fade_some {d : Dimmer} {f : Fade} (h : d.fade = some f) :
    tickDimmer d =
      { d with
        fade := some { f with elapsed := min f.duration (f.elapsed + 1) },
        working := fadeLevel { f with elapsed := min f.duration (f.elapsed + 1) } } := by
  simp [tickDimmer, h]

/-- A tick changes nothing of a channel but its fade and its working level. -/
theorem tickDimmer_rest (d : Dimmer) :
    tickDimmer d = { d with working := (tickDimmer d).working, fade := (tickDimmer d).fade } := by
  cases h : d.fade with
  | none => rw [tickDimmer_of_fade_none h]
  | some f => rw [tickDimmer_of_fade_some h]

/-! ### The tick as a whole -/

/-- The tick that the model passes is the tick of R1, block by block. -/
theorem tickPassed_passTick (s : State) : TickPassed s (passTick s) where
  tick := rfl
  link := ⟨counted_tickTimer _, rfl⟩
  write := by
    change tickDispatcher s.link.dispatcher = _
    cases s.link.dispatcher <;> rfl
  ops := ⟨counted_tickTimer _, counted_tickTimer _, counted_tickTimer _, rfl⟩
  slots p := by
    rw [passTick_slot]
    exact ⟨counted_tickTimer _, rfl⟩
  groups g := by
    rw [passTick_group]
    exact ⟨counted_tickTimer _, counted_tickTimer _, counted_tickTimer _, counted_tickTimer _, ⟨rfl, rfl, rfl⟩,
      reading_passTick s g⟩
  cnd := rfl
  plant := ⟨counted_tickTimer _, counted_tickTimer _, counted_tickTimer _, rfl, rfl⟩
  recover := ⟨rfl, by
    rw [← recoverSecondEnds_iff, ← Bool.or_eq_true]
    rfl⟩
  stages n := by
    rw [passTick_stage]
    exact ⟨rfl, counted_tickTimer _, counted_tickTimer _, ⟨rfl, rfl, rfl⟩, tickStage_minDue_iff _ _ _⟩
  loads := ⟨counted_tickTimer _, counted_tickTimer _, rfl⟩
  zones := ⟨rfl, fun z => by
    rw [passTick_zone]
    refine ⟨counted_tickTimer _, rfl, fun n => ?_⟩
    rw [tickZone_heater]
    exact ⟨rfl, counted_tickTimer _⟩⟩
  fog := ⟨counted_tickTimer _, counted_tickTimer _, counted_tickTimer _, rfl⟩
  lights := ⟨counted_tickTimer _, counted_tickTimer _, counted_tickTimer _, counted_tickTimer _, rfl, rfl, rfl, rfl⟩
  dimmers ch := by
    rw [passTick_dimmer]
    refine ⟨tickDimmer_of_fade_none, tickDimmer_rest _, fun f h => ?_⟩
    rw [tickDimmer_of_fade_some h]
    exact ⟨rfl, rfl⟩
  rest := ⟨rfl, rfl, rfl⟩

/-! ### The idle step -/

theorem step_of_pending_nil {s : State} (h : s.pending = []) : step s = .next (idle s) := by
  simp [step, h]

/-- An event that is due holds the next tick back (log 1). -/
theorem idle_of_eventDue {s : State} (h : EventDue s) : idle s = s := if_pos ((due_iff s).2 h)

theorem idle_of_not_eventDue {s : State} (h : ¬EventDue s) : idle s = passTick s := if_neg (mt (due_iff s).1 h)

/-- Settles O2: the idle step stands still exactly while an event is due, and else is `passTick`, whose effect is
stated block by block in `tickPassed_passTick`. -/
theorem idleStepPassesATick : Obligations.IdleStepPassesATick := by
  intro s empty
  rw [step_of_pending_nil empty]
  refine ⟨fun h => ?_, fun h => ⟨passTick s, ?_, tickPassed_passTick s⟩⟩
  · rw [idle_of_eventDue h]
  · rw [idle_of_not_eventDue h]

end Sys2Proof.Machine
end
